-- ==== Sys2Proof/Word.lean ====
section
/-! DEFINITION. The words of the TG12: bytes, texts, the wrapping lane second, and the numbers of the
part's lanes, desks and blocks (spec 00_scope.md, "Numbers and ranges", "Numbering"; R2; R207). -/

namespace Sys2Proof

/-- One byte of a control-port frame or one character of a pedestal message (R112, R207). -/
abbrev Byte := BitVec 8

/-- A character field: digits and capital letters by their common 7-bit codes (R207). -/
abbrev Text := List Byte

/-- A lane-second count or a loop stamp, 0 to 65535, wrapping (R2, R92). -/
abbrev LaneSec := BitVec 16

/-- A lane of the part; lane number n of the spec is index n - 1. -/
abbrev LaneId := Fin 12

/-- A desk position of the Trouble Desk Unit; desk number n is index n - 1. -/
abbrev DeskId := Fin 4

/-- A yard block, numbered 0 to 31 (R172). -/
abbrev BlockId := Fin 32

/-- The lane with a number from 1 to 12, or none for any other number. -/
def laneOf (n : Nat) : Option LaneId :=
  if h : 1 ≤ n ∧ n ≤ 12 then some ⟨n - 1, by omega⟩ else none

/-- The number the spec gives a lane. -/
def laneNumber (l : LaneId) : Nat := l.val + 1

/-- The desk with a number from 1 to 4, or none for any other number. -/
def deskOf (n : Nat) : Option DeskId :=
  if h : 1 ≤ n ∧ n ≤ 4 then some ⟨n - 1, by omega⟩ else none

/-- The number the spec gives a desk. -/
def deskNumber (d : DeskId) : Nat := d.val + 1

/-- The block with a number from 0 to 31, or none for any other number. -/
def blockOf (n : Nat) : Option BlockId :=
  if h : n < 32 then some ⟨n, h⟩ else none

/-- All lanes in ascending number. -/
def allLanes : List LaneId := List.finRange 12

/-- All blocks in ascending number. -/
def allBlocks : List BlockId := List.finRange 32

end Sys2Proof
end

