-- ==== Sys2Proof/Config.lean ====
section
/-! DEFINITION. The constants the spec fixes for every TG12: the capacities of its collections, the top
of each saturating count, the ranges of its settings, each cited to the rule that gives it; and the free
values, which nothing constrains. -/

namespace Sys2Proof.Config

/-- The top of the gate minute, where it saturates (R1). -/
def maxMinute : Nat := 1048575
/-- The most minutes a backward sync may ask for (R8). -/
def maxBackward : Nat := 10
/-- Minutes since sync saturates here (R3). -/
def maxSinceSync : Nat := 255
/-- Bookings in the booking book (R30). -/
def bookSize : Nat := 4096
/-- Carriers in the carrier table (R19). -/
def carrierSize : Nat := 128
/-- Windows in the ring (R39). -/
def ringSize : Nat := 48
/-- The four window tallies saturate here (R42). -/
def maxTally : Nat := 65535
/-- Greatest general capacity of a window (R43). -/
def maxCg : Nat := 255
/-- Greatest reserve capacity of a window (R43). -/
def maxCr : Nat := 63
/-- Visit slots of the Visit Table (R66). -/
def slotCount : Nat := 64
/-- Greatest visit number (R66). -/
def maxVisitNumber : Nat := 65535
/-- Holds of one visit (R75). -/
def holdListSize : Nat := 6
/-- Staging entries and reservations together (R80). -/
def stagingSize : Nat := 24
/-- Reads in a drop's read list (R157). -/
def readListSize : Nat := 4
/-- Reads in a visit's stray list (R157). -/
def strayListSize : Nat := 2
/-- Findings counted on one drop (R164). -/
def maxFindings : Nat := 8
/-- Greatest severity of a finding (R167). -/
def maxSeverity : Nat := 3
/-- The damage index is capped here (R165). -/
def maxIndex : Nat := 255
/-- Greatest credit of a block (R173). -/
def maxCredit : Nat := 255
/-- Visits on the yard wait list (R181). -/
def waitListSize : Nat := 16
/-- Places in the trouble area (R189). -/
def troublePlaces : Nat := 16
/-- Places of the response queue (R201). -/
def responsePlaces : Nat := 4
/-- Greatest payload of a frame (R200). -/
def maxPayload : Nat := 1024
/-- Greatest payload of an inbound pedestal message (R117). -/
def maxInbound : Nat := 60
/-- The start character of a pedestal message (R207). -/
def startChar : Byte := 2
/-- The BOOM occupy count and the axle count saturate here (R93, R94). -/
def maxCount4 : Nat := 15
/-- Depth of the STOP_ALL input's filter (R87). -/
def stopDepth : Nat := 3
/-- The sample period of a parked lane in milliseconds (R89). -/
def parkedPeriod : Nat := 50
/-- The default weights of the seven zones, in the order of R165's table. -/
def defaultWeights : Vector Nat 7 := ⟨#[2, 4, 2, 2, 3, 3, 5], rfl⟩

/-! ### Free values -/

/-- The characters of a message in transmission that leave a link before its count is read for the n-th
time: a passage of time the rows do not show (DESIGN CHOICE, notes/assumptions/11.md). -/
opaque charsSince : Nat → Nat
/-- The destination the answer to a VOID gives for the seal number struck out of a visit, of which R163
names the item and no value (DESIGN CHOICE, notes/assumptions/34.md). -/
opaque voidFate : Nat → Text → Nat
/-- A byte SDO carries in a transaction of an unknown type byte, which R200 does not give
(DESIGN CHOICE, notes/assumptions/28.md). -/
opaque unknownTypeByte : Byte → Nat → Byte

end Sys2Proof.Config
end

