-- ==== Sys2Proof/Syntax.lean ====
section
/-! DEFINITION. The commands of the TG12: `Instr`, one constructor per row of spec/opcode_table.json, and
the operand types the rows carry. A control-port command carries the tag of its frame (R207) and its
operands in the order its entry names them; a lane or link event carries its lane. -/

namespace Sys2Proof

/-- The charge pool of a booking (2.1). -/
inductive Pool | general | reserve
  deriving DecidableEq, Repr

/-- The special field of a booking (2.1); `plain` is the spec's NONE. -/
inductive Special | plain | reefer | hazard | reeferHazard
  deriving DecidableEq, Repr

/-- The kind of a move (R16). -/
inductive MoveKind | exportDrop | emptyReturn | importPick | emptyPick
  deriving DecidableEq, Repr

/-- A move of a booking with the fields of R16; which fields a kind takes is checked by R29. -/
structure BookMove where
  kind : MoveKind
  container : Option Text
  release : Option Text
  size : Option Nat
  seals : List Text
  deriving DecidableEq, Repr

/-- The operands of BOOK_ADD (R29). -/
structure NewBooking where
  ref : Text
  carrier : Text
  plate : Option Text
  card : Option Text
  tag : Nat
  pool : Pool
  special : Special
  moves : List BookMove
  preferred : Option Nat
  deriving DecidableEq, Repr

/-- An amendable optional field: left as it is, removed by the clear mark, or given (R31). -/
inductive Amend | keep | clear | put (t : Text)
  deriving DecidableEq, Repr

/-- The preferred block of an amendment: left, removed, or given (R31). -/
inductive AmendBlock | keep | clear | put (n : Nat)
  deriving DecidableEq, Repr

/-- The fields of BOOK_AMEND beside the ref (R31). -/
structure Amendment where
  plate : Amend
  card : Amend
  tag : Option Nat
  pool : Option Pool
  special : Option Special
  moves : Option (List BookMove)
  preferred : AmendBlock
  deriving DecidableEq, Repr

/-- The key of BOOK_FIND (R35). -/
inductive FindKey | ref (r : Text) | plate (p : Text) | card (c : Text)
  deriving DecidableEq, Repr

/-- The two forms of BOOK_PURGE (R36). -/
inductive PurgeForm | ref (r : Text) | minute (b : Nat)
  deriving DecidableEq, Repr

/-- The action of CARRIER_SET (R19). -/
inductive CarrierAction | active | suspended | remove
  deriving DecidableEq, Repr

/-- The selector of WINDOW_READ (R46). -/
inductive WindowSel | start (s : Nat) | position (p : Nat) | running | lastRetired
  deriving DecidableEq, Repr

/-- The twelve hold reasons (R75); `badSeal` is the spec's SEAL. -/
inductive HoldReason
  | noBooking | carrier | driver | noSlot | badSeal | damage | axleCheck | noYard | withdrawn
  | clerk | linkDown | timeout
  deriving DecidableEq, Repr

/-- The selector of VISIT_READ (R84). -/
inductive VisitSel | number (n : Nat) | lane (n : Nat) | desk (n : Nat) | staging (p : Nat)
  deriving DecidableEq, Repr

/-- The six inputs of a lane in the order of the input table of 5.1. -/
inductive Input | approach | stop | boom | exit | axle | boomUp
  deriving DecidableEq, Repr

/-- The polarity of an input (R86). -/
inductive Polarity | normal | inverted
  deriving DecidableEq, Repr

/-- The detection mode of an input (R86). -/
inductive DetectMode | off | level | rise | fall | both
  deriving DecidableEq, Repr

/-- The settings LANE_CONFIG may give, each optional (R108). -/
structure LaneConfigOp where
  polarity : Vector (Option Polarity) 6
  mode : Vector (Option DetectMode) 6
  sample : Option Nat
  depth : Option Nat
  raiseLimit : Option Nat
  axleTwinMin : Option Nat
  parkAfter : Option Nat
  pedestalLimit : Option Nat
  holdLimit : Option Nat
  clearLimit : Option Nat
  linkRate : Option Nat
  deriving DecidableEq, Repr

/-- A mask over the five sticky link flags (R126). -/
structure LinkMask where
  parity : Bool
  frame : Bool
  badMsg : Bool
  brk : Bool
  overrun : Bool
  deriving DecidableEq, Repr

/-- The seven damage zones (8.3). -/
inductive Zone | front | doorEnd | left | right | roof | underside | cornerPosts
  deriving DecidableEq, Repr

/-- One finding of DAMAGE_REPORT (R167). -/
structure Finding where
  zone : Zone
  severity : Nat
  deriving DecidableEq, Repr

/-- The kind of a yard block (9.1). -/
inductive BlockKind
  | stackExport | stackEmpty | deliveryImport | emptyIssue | inspection | reefer | hazard
  deriving DecidableEq, Repr

/-- The fields BLOCK_SET may give, each optional (R183). -/
structure BlockSetOp where
  opened : Option Bool
  credit : Option Nat
  route : Option Nat
  label : Option Text
  kind : Option BlockKind
  deriving DecidableEq, Repr

/-- The selector of BLOCK_READ (R187). -/
inductive BlockSel | block (n : Nat) | all | waitList
  deriving DecidableEq, Repr

/-- What a stop-all does with the boom-raise outputs (R102). -/
inductive StopMode | hold | lowerIfClear
  deriving DecidableEq, Repr

/-- How lanes are resumed when a stop-all ends (R102). -/
inductive Restart | auto | byCommand
  deriving DecidableEq, Repr

/-- The settings SETTINGS_WRITE may give, each optional (R205). -/
structure SettingsOp where
  p : Option Nat
  hx : Option Nat
  e : Option Nat
  g : Option Nat
  stopMode : Option StopMode
  restart : Option Restart
  stopPolarity : Option Polarity
  stopInput : Option DetectMode
  sealWindow : Option Nat
  damageWindow : Option Nat
  weights : Vector (Option Nat) 7
  tInspect : Option Nat
  tHold : Option Nat
  deriving DecidableEq, Repr

/-- A mask over the seven gate flags (R202). -/
structure GateMask where
  clockChanged : Bool
  syncReject : Bool
  stopAll : Bool
  laneFault : Bool
  linkOffline : Bool
  troubleFull : Bool
  portFault : Bool
  deriving DecidableEq, Repr

/-- The keys of a PRESS message (R120). -/
inductive Key | help | confirm | cancel
  deriving DecidableEq, Repr

/-- The faults of an inbound message (the table of R118, the gap limit apart). -/
inductive MsgFault | parity | frame | parityAndFrame | length | kind | sum | payload
  deriving DecidableEq, Repr

/-- The commands: one constructor per row of spec/opcode_table.json, in the table's order. -/
inductive Instr
  | powerOnReset (laneCount1 laneCount0 : Bool)
  | resetLine (laneCount1 laneCount0 : Bool)
  | commandFrame (typeByte : Byte) (frame : List Byte)
  | fetch (clocked : Nat)
  | timeSet (tag : Byte) (m : Nat)
  | timeSync (tag : Byte) (m : Nat)
  | catchUpStep
  | timeStatus (tag : Byte)
  | laneSecond
  | internalMinuteTick
  | retirement
  | windowAppend (tag : Byte) (start length cg cr : Nat)
  | windowResize (tag : Byte) (start : Nat) (cg cr : Option Nat)
  | windowRead (tag : Byte) (sel : WindowSel)
  | bookAdd (tag : Byte) (b : NewBooking)
  | bookAmend (tag : Byte) (ref : Text) (a : Amendment)
  | bookCancel (tag : Byte) (ref : Text)
  | bookReinstate (tag : Byte) (ref : Text)
  | bookFind (tag : Byte) (key : FindKey)
  | bookPurge (tag : Byte) (form : PurgeForm)
  | carrierSet (tag : Byte) (code : Text) (action : CarrierAction)
  | bookSearch
  | claim
  | admission
  | endingBookings
  | holdPlace (tag : Byte) (visit : Nat) (reason : HoldReason) (desk : Option Nat)
  | holdRelease (tag : Byte) (visit : Nat) (reason : HoldReason) (desk : Option Nat)
  | visitClose (tag : Byte) (visit : Nat)
  | takeChanged (tag : Byte)
  | visitRead (tag : Byte) (sel : VisitSel)
  | laneConfig (tag : Byte) (lane : Nat) (c : LaneConfigOp)
  | laneOpen (tag : Byte) (lane : Nat)
  | laneClose (tag : Byte) (lane : Nat)
  | laneCloseForce (tag : Byte) (lane : Nat)
  | laneRecover (tag : Byte) (lane : Nat)
  | laneStatus (tag : Byte) (lane : Nat) (clear : LinkMask)
  | plateReport (tag : Byte) (lane : Nat) (plate : Text)
  | sealReport (tag : Byte) (visit : Nat) (sealNo : Text) (slot : Option Nat)
  | sealReportVoid (tag : Byte) (visit : Nat) (sealNo : Text) (slot : Option Nat)
  | damageReport (tag : Byte) (visit : Nat) (slot : Option Nat) (findings : List Finding)
  | damageDone (tag : Byte) (visit : Nat)
  | stopAllSet (tag : Byte)
  | stopAllClear (tag : Byte)
  | blockSet (tag : Byte) (block : Nat) (b : BlockSetOp)
  | blockConfirm (tag : Byte) (visit position : Nat)
  | blockRead (tag : Byte) (sel : BlockSel)
  | assignment (lane : LaneId)
  | deskTake (tag : Byte) (desk : Nat)
  | deskRetry (tag : Byte) (desk : Nat)
  | deskRebook (tag : Byte) (desk : Nat) (ref : Text) (start : Nat)
  | deskSend (tag : Byte) (desk : Nat)
  | deskTurnBack (tag : Byte) (desk : Nat)
  | deskReturn (tag : Byte) (desk : Nat)
  | settingsWrite (tag : Byte) (w : SettingsOp)
  | settingsRead (tag : Byte)
  | gateStatus (tag : Byte) (clear : GateMask)
  | clearFault (tag : Byte)
  | gateReset (tag : Byte)
  | approachOccupy (lane : LaneId)
  | approachVacate (lane : LaneId)
  | stopOccupy (lane : LaneId)
  | stopVacate (lane : LaneId)
  | boomOccupy (lane : LaneId)
  | boomVacate (lane : LaneId)
  | exitOccupy (lane : LaneId)
  | exitVacate (lane : LaneId)
  | pulse (lane : LaneId)
  | up (lane : LaneId)
  | down (lane : LaneId)
  | levelChange (lane : LaneId) (input : Input) (active : Bool)
  | stopOn
  | stopOff
  | raiseLimitExpiry (lane : LaneId)
  | pedestalLimitExpiry (lane : LaneId)
  | holdLimitExpiry (lane : LaneId)
  | clearLimitExpiry (lane : LaneId)
  | sealWindowExpiry (lane : LaneId)
  | damageWindowExpiry (lane : LaneId)
  | card (lane : LaneId) (card : Text)
  | keyedRef (lane : LaneId) (ref : Text)
  | keyedContainer (lane : LaneId) (container : Text) (slot : Option Nat)
  | sealRead (lane : LaneId) (sealNo : Text) (slot : Option Nat)
  | press (lane : LaneId) (key : Key)
  | kioskHello (lane : LaneId)
  | messageFault (lane : LaneId) (fault : MsgFault)
  | gapLimit (lane : LaneId)
  | lineBreak (lane : LaneId)
  | breakEnd (lane : LaneId)
  | ctsAssert (lane : LaneId)
  | messageSent (lane : LaneId)
  | characterReceived (lane : LaneId) (data : Byte) (parityBit stopBit : Bool)
  | ctsDeassert (lane : LaneId)
  deriving DecidableEq, Repr

end Sys2Proof
end

