-- ==== Sys2Proof/Decode.lean ====
section
/-! DEFINITION. The command a word of spec/opcode_table.json spells. No row of the table gives bits, so no word
spells a command; the frames of the control port are read in Machine/Frame.lean (R207). -/

namespace Sys2Proof

/-- The command that a word of so many bits spells: none, as the table gives no row any bits. -/
def decodeTableWord (_nbits _w : Nat) : Option Instr := none

end Sys2Proof
end

