-- ==== Sys2Proof/Machine/State.lean ====
section
/-! DEFINITION. The state of the TG12, block by block (spec 00_scope.md, "Block overview"), as plain data,
the outcomes a step may have, and the state after reset (R14, R37, R63, R85, R110, R127, R154, R171,
R188, R198, R203, R205, R206). -/

namespace Sys2Proof.Machine

/-- Why the block stops. No rule of the spec stops it: every command and event has an effect or none, so
this type has no constructor and no meaning answers a fault (safe: nothing is cut short). -/
inductive Fault
  deriving DecidableEq, Repr

/-- Why a command has no meaning here. -/
inductive Refusal
  /-- A row of the table whose meaning is not written; raised by no arm of `exec` (safe). -/
  | notModelled (mnemonic : String)
  deriving DecidableEq, Repr

/-! ### Time Base -/

/-- The clock state (1.2). -/
inductive ClockState | unset | locked | holdover | lost
  deriving DecidableEq, Repr

/-- The Time Base (1.1). `ticksDue` is the model's own: internal minute ticks that the lane second has
called for under R2 and INTERNAL_MINUTE_TICK has not taken yet. -/
structure TimeBase where
  minute : Option Nat
  clock : ClockState
  sinceSync : Nat
  lead : Nat
  laneSec : LaneSec
  subMinute : Nat
  target : Option Nat
  p : Nat
  hx : Nat
  ticksDue : Nat
  deriving DecidableEq, Repr

/-! ### Book Engine -/

/-- The state of a booking (2.2); `opened` is the spec's OPEN. -/
inductive BookingState | opened | arrived | admitted | consumed | cancelled | lapsed
  deriving DecidableEq, Repr

/-- The flags of a booking (2.1). -/
structure BookingFlags where
  absorbed : Bool
  pulled : Bool
  withdrawn : Bool
  incomplete : Bool
  deriving DecidableEq, Repr

/-- A booking record (2.1); `recL` is the record of L. -/
structure Booking where
  ref : Text
  carrier : Text
  plate : Option Text
  card : Option Text
  tag : Nat
  pool : Pool
  recL : Nat
  special : Special
  moves : List BookMove
  preferred : Option Nat
  state : BookingState
  flags : BookingFlags
  claimant : Option Nat
  deriving DecidableEq, Repr

/-- The state of a carrier (2.3). -/
inductive CarrierState | active | suspended
  deriving DecidableEq, Repr

/-- A carrier table entry (2.3). -/
structure Carrier where
  code : Text
  state : CarrierState
  deriving DecidableEq, Repr

/-- A window record (3.1). -/
structure Window where
  start : Nat
  length : Nat
  cg : Nat
  cr : Nat
  bookedG : Nat
  bookedR : Nat
  arrived : Nat
  late : Nat
  absorbed : Nat
  pulledIn : Nat
  deriving DecidableEq, Repr

/-- The last-retired record (R49). -/
structure LastRetired where
  window : Window
  servedAt : Nat
  lapsed : Nat
  abandoned : Nat
  deriving DecidableEq, Repr

/-- The class of requester last served (R24). -/
inductive BEClass | port | lane
  deriving DecidableEq, Repr

/-- A claim whose turn it was as the clock's own minute began: the lane, the visit it binds and the refs it asks for (R61,
notes/assumptions/33.md). -/
structure ClaimFirst where
  lane : LaneId
  visit : Nat
  refs : List Text
  deriving DecidableEq, Repr

/-- The Book Engine: book in book order, carrier table, ring from the head, grant state (R24).
`claimAhead` is the model's own: the claim that may be granted before the retirement which fell due at the clock's own
minute, none once either is served (R61, notes/assumptions/33.md). -/
structure BookEngine where
  book : List Booking
  carriers : List Carrier
  ring : List Window
  lastRetired : Option LastRetired
  lastClass : BEClass
  lastLane : LaneId
  claimAhead : Option ClaimFirst
  deriving DecidableEq, Repr

/-! ### Visit Table and Check Unit records -/

/-- Where a seal read came from (8.1). -/
inductive ReadSource | pedestal | host
  deriving DecidableEq, Repr

/-- Where the visit stood when a read was taken (8.1). -/
inductive ReadPhase | preWindow | inWindow | late | afterRelease
  deriving DecidableEq, Repr

/-- A read in a read list or the stray list (8.1). -/
structure SealRead where
  num : Text
  source : ReadSource
  phase : ReadPhase
  deriving DecidableEq, Repr

/-- The window state of a sealed drop (8.1). -/
inductive WindowState | notOpened | opened | closed
  deriving DecidableEq, Repr

/-- The verdict of a closed drop (R158). -/
inductive Verdict | matched | missing | foreign | unread
  deriving DecidableEq, Repr

/-- A seal record (8.1). -/
structure SealRecord where
  declared : List Text
  reads : List SealRead
  window : WindowState
  verdict : Option Verdict
  deriving DecidableEq, Repr

/-- A damage record (8.3). -/
structure DamageRecord where
  severity : Vector Nat 7
  count : Nat
  index : Nat
  after : Nat
  deriving DecidableEq, Repr

/-- The state of a move in a visit (R16). -/
inductive MoveState | pending | directed | done | cancelled
  deriving DecidableEq, Repr

/-- A move entry of a visit (4.1). -/
structure MoveEntry where
  kind : MoveKind
  container : Option Text
  owner : Text
  state : MoveState
  block : Option BlockId
  sealRec : Option SealRecord
  damage : Option DamageRecord
  deriving DecidableEq, Repr

/-- Who placed a hold (R75). -/
inductive HoldSource | lane | host | desk | system
  deriving DecidableEq, Repr

/-- A hold of a hold list (4.1). -/
structure Hold where
  reason : HoldReason
  source : HoldSource
  placed : Nat
  deriving DecidableEq, Repr

/-- The stage of a visit (4.3). -/
inductive Stage | atLane | staged | queued | atDesk | released | closed
  deriving DecidableEq, Repr

/-- The standing of a claimed booking (R59). -/
inductive Standing
  | unjudged | onTime | lateGrace | earlyPulled | earlyStaged | lateAbsorbed | lateUnplaced | deferred
  deriving DecidableEq, Repr

/-- A claimed booking of a visit with its standing and HOLDOVER flag (4.1, R59). -/
structure Claimed where
  ref : Text
  standing : Standing
  holdover : Bool
  deriving DecidableEq, Repr

/-- A stop of a direction (R179). -/
structure Stop where
  block : BlockId
  label : Text
  route : Nat
  moves : List (MoveKind × Option Text)
  deriving DecidableEq, Repr

/-- A visit's direction: stops, or one pseudo-stop (4.1, R125). -/
inductive Direction | stops (l : List Stop) | staging (minute : Nat) | trouble
  deriving DecidableEq, Repr

/-- The staging field of a visit (4.1). -/
structure Staging where
  minute : Nat
  eligible : Bool
  deriving DecidableEq, Repr

/-- The causes of the changed set (R82). -/
inductive Cause
  | stage | holds | checks | direction | redirected | blockClosedEnRoute | damageAfterRelease
  | sealAfterRelease | tailgate | closed
  deriving DecidableEq, Repr

/-- How a visit is ending (4.4). -/
inductive EndKind | close | turnBack | abandon
  deriving DecidableEq, Repr

/-- A visit record, live or closed and awaiting its last report (4.1). `causes` are the causes pending in
the changed set; `ending` is present from the first step of the ending sequence (R72). -/
structure Visit where
  number : Nat
  stage : Stage
  lane : Option LaneId
  desk : Option DeskId
  plate : Option Text
  card : Option Text
  axle : Nat
  claimed : List Claimed
  moves : List MoveEntry
  holds : List Hold
  stray : List SealRead
  direction : Option Direction
  staging : Option Staging
  arrival : Nat
  arrivalSec : LaneSec
  release : Option Nat
  causes : List Cause
  ending : Option EndKind
  deriving DecidableEq, Repr

/-- The Visit Table: slots in use, next number, slot-wait list, staged visits in order of ENTRY (the
staging list orders them by eligible minute, see `stagingList`), and the changed set in order. -/
structure VisitTable where
  visits : List Visit
  next : Nat
  slotWait : List LaneId
  stagedIn : List Nat
  changed : List Nat
  deriving DecidableEq, Repr

/-! ### Lane Units and Pedestal Links -/

/-- The settings of a lane (R108). -/
structure LaneConfig where
  polarity : Vector Polarity 6
  mode : Vector DetectMode 6
  sample : Nat
  depth : Nat
  raiseLimit : Nat
  axleTwinMin : Nat
  parkAfter : Nat
  pedestalLimit : Nat
  holdLimit : Nat
  clearLimit : Nat
  linkRate : Nat
  deriving DecidableEq, Repr

/-- The filter of one input: accepted level and run count (R90). -/
structure Filter where
  level : Bool
  run : Nat
  deriving DecidableEq, Repr

/-- The stamps of one loop (R92). -/
structure Stamps where
  current : Option LaneSec
  previous : Option LaneSec
  deriving DecidableEq, Repr

/-- The six timers of a lane (R96). -/
inductive TimerId | raise | pedestal | hold | clear | sealWindow | damageWindow
  deriving DecidableEq, Repr

/-- A timer (R96). RUNNING with remainder 0 is a timer whose expiry has been reached and not yet taken. -/
inductive Timer | stopped | running (n : Nat) | suspended (n : Nat)
  deriving DecidableEq, Repr

/-- The boom-raise output (R97). -/
inductive BoomOutput | withdrawn | asserted | withdrawPending
  deriving DecidableEq, Repr

/-- The cause of a lane's FAULT (R99, R102, R148). -/
inductive FaultCause | boomJam | stalled | tailgate | stopped
  deriving DecidableEq, Repr

/-- The lane state (7.1). -/
inductive LaneState
  | closed | parked | idle | approach | identify | checking | held | directed | releasing
  | fault (cause : FaultCause)
  deriving DecidableEq, Repr

/-- The destination of a send-off (R144). -/
inductive Dest | yard | staging | trouble | back
  deriving DecidableEq, Repr

/-- The ticket of a send-off (7.1). -/
inductive TicketState | awaited | ended | none
  deriving DecidableEq, Repr

/-- A send-off (7.1). `minute` is the minute its prompt carries; `ticketId` is the model's own name for the
ticket the send-off waits for, so that a report of an earlier ticket is told apart (R144). -/
structure SendOff where
  dest : Dest
  ticket : TicketState
  raiseOrdered : Bool
  minute : Option Nat
  ticketId : Nat
  deriving DecidableEq, Repr

/-- The key of a book search (R26). -/
inductive SearchKey | plate (t : Text) | card (t : Text)
  deriving DecidableEq, Repr

/-- A request in flight that outlasts a step (7.1). TROUBLE is answered in the step that makes it, and so
is RESERVE where a place is free; the one refused FULL stands, with the eligible minute it asked for,
until its visit's ending sequence has let the lane go (R48, R72). -/
inductive Flight | none | search (key : SearchKey) | claim (refs : List Text) | direction | reserve (minute : Nat)
  deriving DecidableEq, Repr

/-- A Book Engine request a lane owes for a visit that has left it (R23). -/
inductive Owed | admission (visit : Nat) | ending (visit : Nat) (kind : EndKind)
  deriving DecidableEq, Repr

/-- A pending entry (7.1). -/
inductive Entry | card (t : Text) | ref (t : Text)
  deriving DecidableEq, Repr

/-- The prompt mode in IDENTIFY (7.1). -/
inductive PromptMode | identify | enterRef
  deriving DecidableEq, Repr

/-- The trouble place of a lane (7.1). -/
inductive TroublePlace | none | blocked | admitted
  deriving DecidableEq, Repr

/-- The prompt codes in the order of the table of R124. -/
inductive PromptCode
  | identify | enterRef | enterSeals | reenterContainer | wait | goTrouble | goStaging | returnLater
  | proceed | laneClosed
  deriving DecidableEq, Repr

/-- A PROMPT's content (R124). -/
structure Prompt where
  code : PromptCode
  minute : Option Nat
  deriving DecidableEq, Repr

/-- An outbound message (R121). A ticket carries the model's own id beside its content. -/
inductive OutMsg
  | prompt (p : Prompt)
  | direction (visit : Nat) (d : Direction)
  | ticket (id visit : Nat) (d : Direction) (minute : Nat)
  | resetKiosk
  deriving DecidableEq, Repr

/-- An accepted inbound message (R120). -/
inductive InMsg
  | card (t : Text) | keyedRef (t : Text) | keyedContainer (t : Text) (slot : Option Nat)
  | sealRead (t : Text) (slot : Option Nat) | press (k : Key) | hello
  deriving DecidableEq, Repr

/-- The receiver state of a link (6.1). -/
inductive RxState | hunt | inMessage | breakSeen
  deriving DecidableEq, Repr

/-- The message in transmission with its count of characters sent (6.1). -/
structure Transmission where
  msg : OutMsg
  sent : Nat
  deriving DecidableEq, Repr

/-- How a ticket ended (R123). -/
inductive TicketOutcome | sent | replaced | cleared | droppedOffline
  deriving DecidableEq, Repr

/-- A ticket report: the ticket, the visit it names, and its outcome (R123). -/
structure TicketReport where
  id : Nat
  visit : Nat
  outcome : TicketOutcome
  deriving DecidableEq, Repr

/-- A pedestal link (6.1); LINK_RATE stands with the lane's settings. `nextTicket`, `lastReport` and
`reads` are the model's own: the next ticket id, the latest report given to the lane, and how often the
count of characters sent has been read (the argument of `Config.charsSince`). -/
structure Link where
  online : Bool
  rx : RxState
  assembly : List Byte
  rxBuf : Option InMsg
  txQueue : List OutMsg
  tx : Option Transmission
  flags : LinkMask
  cts : Bool
  nextTicket : Nat
  lastReport : Option TicketReport
  reads : Nat
  deriving DecidableEq, Repr

/-- The result of a book search (R26). -/
inductive SearchResult
  | resume (visit : Nat) (ref : Text) | one (ref : Text) | two (a b : Text) | many (n : Nat) | none
  deriving DecidableEq, Repr

/-- The driver match of a claimed booking (R27). -/
inductive DriverMatch | matched | mismatch | notPresented | noneNamed
  deriving DecidableEq, Repr

/-- The answer to one ref of a claim (R27). -/
inductive RefAnswer
  | notFound
  | claimed (m : DriverMatch) (carrier : CarrierState)
  | resumed (visit : Nat) (m : DriverMatch) (carrier : CarrierState)
  | taken
  | notClaimable
  | skipped
  deriving DecidableEq, Repr

/-- A booking as judged (R59): standing, HOLDOVER flag, offset d, window tag and pool after the request. -/
structure Judged where
  ref : Text
  standing : Standing
  holdover : Bool
  offset : Int
  tag : Nat
  pool : Pool
  deriving DecidableEq, Repr

/-- The answer to a hold placement (R75). -/
inductive HoldAnswer | placed | replaced | displaced | full | wrongState
  deriving DecidableEq, Repr

/-- The answer to a claim (R27, R59). `stage` is present under the STAGE outcome with the eligible minute. -/
structure ClaimAnswer where
  refs : List (Text × RefAnswer)
  tooMany : Bool
  judged : List Judged
  stage : Option Nat
  resumed : Option Nat
  noSlot : Option HoldAnswer
  deriving DecidableEq, Repr

/-- The Yard Director's answer to a direction request (R177, R178, R180). -/
inductive DirectionAnswer | assigned | noYard | noMoves | wrongState
  deriving DecidableEq, Repr

/-- A block answer kept by a stopped lane (R152, R135, R170, R185, R191). `stagingFull` is the answer to a
RESERVE refused FULL, with the eligible minute it asked for (R48). -/
inductive KeptAnswer
  | slotGrant
  | search (r : SearchResult)
  | claim (a : ClaimAnswer)
  | direction (a : DirectionAnswer)
  | placeGrant
  | ticket (r : TicketReport)
  | checksFinal
  | redirected
  | stagingFull (minute : Nat)
  deriving DecidableEq, Repr

/-- An event a held lane keeps while a request is in flight (R149). -/
inductive KeptEvent | offer | emptied
  deriving DecidableEq, Repr

/-- What a stop-all makes a lane record (R102). The BOOM occupy count at the stop serves R103 step 5. -/
structure Remembered where
  state : LaneState
  levels : Vector Bool 6
  boomCount : Nat
  deriving DecidableEq, Repr

/-- A Lane Unit with its link (chapters 5 to 7). -/
structure Lane where
  cfg : LaneConfig
  filters : Vector Filter 6
  stamps : Vector Stamps 4
  boomCount : Nat
  axleCount : Nat
  axleOpen : Bool
  output : BoomOutput
  timers : Vector Timer 6
  state : LaneState
  remembered : Option Remembered
  closing : Bool
  visit : Option Nat
  sendOff : Option SendOff
  request : Flight
  owed : List Owed
  pendingEntry : Option Entry
  pendingPlate : Option Text
  plateToSearch : Bool
  promptMode : PromptMode
  nothingEntered : Bool
  trouble : TroublePlace
  memApproach : Bool
  memStop : Bool
  approachRef : Option Nat
  parkRef : Option Nat
  wakeArmed : Option Bool
  lastReleased : Option Nat
  endedPrompt : Option Prompt
  exitTaken : Bool
  identTold : Bool
  finalTold : Bool
  keptExpiry : Bool
  keptGrant : Bool
  keptEvents : List KeptEvent
  keptAnswers : List KeptAnswer
  link : Link
  deriving DecidableEq, Repr

/-! ### Yard Director, Trouble Desk Unit, gate -/

/-- A yard block (9.1). -/
structure Block where
  kind : BlockKind
  opened : Bool
  credit : Nat
  inTransit : Nat
  route : Nat
  label : Text
  deriving DecidableEq, Repr

/-- An entry of the yard wait list (R181). -/
structure WaitEntry where
  visit : Nat
  kind : BlockKind
  deriving DecidableEq, Repr

/-- The Yard Director (chapter 9). -/
structure YardDirector where
  blocks : Vector Block 32
  waitList : List WaitEntry
  deriving DecidableEq, Repr

/-- A desk position (R193). -/
inductive Desk | free | serving (visit taken : Nat) (ready : Bool)
  deriving DecidableEq, Repr

/-- An admission: the lane holding a place, and the visit it is held for (10.1). -/
structure Admission where
  lane : LaneId
  visit : Nat
  deriving DecidableEq, Repr

/-- The Trouble Desk Unit (10.1); the place count is computed, see `placeCount`. -/
structure TroubleDesk where
  queue : List Nat
  admissions : List Admission
  desks : Vector Desk 4
  blocked : List LaneId
  deriving DecidableEq, Repr

/-- The gate settings beside P and HX, which stand in the Time Base (R205). -/
structure Settings where
  e : Nat
  g : Nat
  stopMode : StopMode
  restart : Restart
  stopPolarity : Polarity
  stopInput : DetectMode
  sealWindow : Nat
  damageWindow : Nat
  weights : Vector Nat 7
  tInspect : Nat
  tHold : Nat
  deriving DecidableEq, Repr

/-- The stop-all: its two sources (R101) and the filter of its input (R87). -/
structure StopAll where
  inputSource : Bool
  commandSource : Bool
  filter : Filter
  deriving DecidableEq, Repr

/-! ### Control Port -/

/-- The status codes (11.6). -/
inductive Status
  | ok | okClamped | busy | portFault | badFrame | unknownCommand | badValue | badContainer | notFound
  | duplicate | full | noRoom | wrongState | clockUnset | outOfRange | empty
  deriving DecidableEq, Repr

/-- One item of a response payload, as R207 lays it out. -/
inductive Field
  /-- a one-byte number, mark, or enumerated value -/
  | byte (n : Nat)
  /-- a two-byte number (a visit number among them) -/
  | word (n : Nat)
  /-- a three-byte gate minute -/
  | minute (n : Nat)
  /-- a character field with its count byte -/
  | chars (t : Text)
  /-- the presence byte of an optional item: absent -/
  | absent
  /-- the presence byte of an optional item: present, the item following -/
  | present
  deriving DecidableEq, Repr

/-- A response (R207). -/
structure Response where
  tag : Byte
  status : Status
  payload : List Field
  deriving DecidableEq, Repr

/-- How far the command in progress has come (R200 and the entries that wait). -/
inductive Phase
  /-- taken, and not yet served by its owner (R24) -/
  | waiting
  /-- waits until the retirements it made due have been served, those of the windows up to the start `last`; then answers
  this status (R7, R62) -/
  | retiring (st : Status) (last : Option Nat)
  /-- TIME_SYNC out of LOST waits for the waiting retirements, up to the start `last`; then a forward sync to this minute
  (R11) -/
  | recoverForward (m : Nat) (last : Option Nat)
  /-- as above, then a backward sync with this lead (R11) -/
  | recoverBackward (lead : Nat) (last : Option Nat)
  /-- the forward catch-up (R9) -/
  | catchUp
  /-- waits for the admission of this visit (R196) -/
  | admitting (visit : Nat)
  /-- waits for the bookings step of this visit's ending sequence (R74, R132, R197) -/
  | ending (visit : Nat) (kind : EndKind)
  deriving DecidableEq, Repr

/-- The command in progress (R200). -/
structure InProgress where
  tag : Byte
  cmd : Instr
  phase : Phase
  deriving DecidableEq, Repr

/-- The port-fault cause (R203). -/
inductive PortFaultCause | badFrame | unknownCommand | responseLost
  deriving DecidableEq, Repr

/-- The Control Port. `fetchOut` is the model's own: the bytes SDO carried in the last transaction (R200). -/
structure ControlPort where
  inProgress : Option InProgress
  responses : List Response
  flags : GateMask
  faultCause : Option PortFaultCause
  fetchOut : List Byte
  deriving DecidableEq, Repr

/-- The whole part, and the queue of commands waiting for it, first in first out. -/
structure State where
  tb : TimeBase
  cfg : Settings
  strap : Nat
  be : BookEngine
  vt : VisitTable
  lanes : Vector Lane 12
  yd : YardDirector
  td : TroubleDesk
  stop : StopAll
  cp : ControlPort
  pending : List Instr
  deriving DecidableEq, Repr

/-! ### Reset -/

/-- The time base after reset (R14). -/
def TimeBase.reset : TimeBase :=
  { minute := none, clock := .unset, sinceSync := 0, lead := 0, laneSec := 0, subMinute := 0
    target := none, p := 5, hx := 20, ticksDue := 0 }

/-- The Book Engine after reset (R24, R37, R63). -/
def BookEngine.reset : BookEngine :=
  { book := [], carriers := [], ring := [], lastRetired := none, lastClass := .port, lastLane := 11
    claimAhead := none }

/-- The Visit Table after reset (R66, R85). -/
def VisitTable.reset : VisitTable :=
  { visits := [], next := 1, slotWait := [], stagedIn := [], changed := [] }

/-- The defaults of LANE_CONFIG (R108). -/
def LaneConfig.reset : LaneConfig :=
  { polarity := Vector.replicate 6 .normal
    mode := ⟨#[.both, .both, .both, .both, .rise, .both], rfl⟩
    sample := 2, depth := 3, raiseLimit := 6, axleTwinMin := 5, parkAfter := 15
    pedestalLimit := 180, holdLimit := 120, clearLimit := 40, linkRate := 19200 }

/-- No sticky link flag. -/
def noLinkFlags : LinkMask :=
  { parity := false, frame := false, badMsg := false, brk := false, overrun := false }

/-- No gate flag. -/
def noGateFlags : GateMask :=
  { clockChanged := false, syncReject := false, stopAll := false, laneFault := false
    linkOffline := false, troubleFull := false, portFault := false }

/-- A link after reset (R127), with the CTS level its pedestal drives. -/
def Link.reset (cts : Bool) : Link :=
  { online := false, rx := .hunt, assembly := [], rxBuf := none, txQueue := [], tx := none
    flags := noLinkFlags, cts := cts, nextTicket := 0, lastReport := none
    reads := 0 }

/-- A lane after reset (R91, R110, R154), with the CTS level of its pedestal. -/
def Lane.reset (cts : Bool) : Lane :=
  { cfg := .reset
    filters := Vector.replicate 6 { level := false, run := 0 }
    stamps := Vector.replicate 4 { current := none, previous := none }
    boomCount := 0, axleCount := 0, axleOpen := false, output := .withdrawn
    timers := Vector.replicate 6 .stopped
    state := .closed, remembered := none, closing := false, visit := none, sendOff := none
    request := .none, owed := [], pendingEntry := none, pendingPlate := none, plateToSearch := false
    promptMode := .identify, nothingEntered := false, trouble := .none, memApproach := false
    memStop := false, approachRef := none, parkRef := none, wakeArmed := none, lastReleased := none
    endedPrompt := none, exitTaken := false, identTold := false, finalTold := false
    keptExpiry := false, keptGrant := false, keptEvents := [], keptAnswers := []
    link := .reset cts }

/-- A block after reset (R188). -/
def Block.reset : Block :=
  { kind := .stackExport, opened := false, credit := 0, inTransit := 0, route := 0, label := [] }

/-- The Yard Director after reset (R188). -/
def YardDirector.reset : YardDirector :=
  { blocks := Vector.replicate 32 .reset, waitList := [] }

/-- The Trouble Desk Unit after reset (R198). -/
def TroubleDesk.reset : TroubleDesk :=
  { queue := [], admissions := [], desks := Vector.replicate 4 .free, blocked := [] }

/-- The gate settings' defaults (R205). -/
def Settings.reset : Settings :=
  { e := 30, g := 20, stopMode := .hold, restart := .byCommand, stopPolarity := .normal
    stopInput := .both, sealWindow := 45, damageWindow := 20, weights := Config.defaultWeights
    tInspect := 12, tHold := 36 }

/-- The stop-all after reset (R110). -/
def StopAll.reset : StopAll :=
  { inputSource := false, commandSource := false, filter := { level := false, run := 0 } }

/-- The Control Port after reset (R203). -/
def ControlPort.reset : ControlPort :=
  { inProgress := none, responses := [], flags := noGateFlags, faultCause := none, fetchOut := [] }

/-- The strapped lane count selected by the two LANE_COUNT pins (R206). -/
def strapOf (laneCount1 laneCount0 : Bool) : Nat :=
  if laneCount1 then 4 else if laneCount0 then 8 else 12

/-- Every block in its reset condition, with the LANE_COUNT pins sampled (R206) and each pedestal's CTS
level, which the part does not drive. -/
def State.powerOn (laneCount1 laneCount0 : Bool) (cts : LaneId → Bool) : State :=
  { tb := .reset, cfg := .reset, strap := strapOf laneCount1 laneCount0, be := .reset, vt := .reset
    lanes := Vector.ofFn fun l => Lane.reset (cts l)
    yd := .reset, td := .reset, stop := .reset, cp := .reset, pending := [] }

/-- The part right after reset. The LANE_COUNT pins read low, low and no pedestal asserts CTS: levels
driven from outside, for which the spec gives no value (DESIGN CHOICE, notes/assumptions/1.md; unsafe). -/
def State.reset : State := State.powerOn false false fun _ => false

end Sys2Proof.Machine
end

