-- ==== Sys2Proof/Machine/Ops.lean ====
section
/-! DEFINITION. The named operations over the part's records: lanes, timers, the boom-raise output, visits
and the changed set, places, slots, and the answers of the Control Port. -/

namespace Sys2Proof.Machine

/-! ### Lanes -/

/-- The place of an input in the input table of 5.1. -/
def inputIdx : Input → Fin 6
  | .approach => 0 | .stop => 1 | .boom => 2 | .exit => 3 | .axle => 4 | .boomUp => 5

/-- The six inputs in the order of the input table. -/
def allInputs : List Input := [.approach, .stop, .boom, .exit, .axle, .boomUp]

/-- The place of a timer among a lane's timers. -/
def timerIdx : TimerId → Fin 6
  | .raise => 0 | .pedestal => 1 | .hold => 2 | .clear => 3 | .sealWindow => 4 | .damageWindow => 5

/-- A lane's record. -/
def State.lane (s : State) (l : LaneId) : Lane := s.lanes[l]

/-- Writes a lane's record. -/
def State.setLane (s : State) (l : LaneId) (x : Lane) : State := { s with lanes := s.lanes.set l x }

/-- Changes a lane's record. -/
def State.modLane (s : State) (l : LaneId) (f : Lane → Lane) : State := s.setLane l (f (s.lane l))

/-- A lane numbered up to the strapped lane count (R206). -/
def State.strapped (s : State) (l : LaneId) : Bool := decide (l.val < s.strap)

/-- What a condition reads of an input: its filtered level, and never active in mode OFF (R86). -/
def Lane.reads (x : Lane) (i : Input) : Bool :=
  match x.cfg.mode[inputIdx i] with
  | .off => false
  | _ => x.filters[inputIdx i].level

/-- The BOOM_UP contact reads up to the raise condition of R98: its filtered level, in a mode that reports UP. In
OFF, LEVEL and FALL the arm never reads up there (R88; DEDUCED, notes/assumptions/31.md). -/
def Lane.armUp (x : Lane) : Bool :=
  match x.cfg.mode[inputIdx .boomUp] with
  | .rise | .both => x.filters[inputIdx .boomUp].level
  | _ => false

/-- The six levels a stop snapshot records (R102). -/
def Lane.levels (x : Lane) : Vector Bool 6 := x.filters.map (·.level)

/-- The lane is in FAULT STOPPED. -/
def Lane.isStopped (x : Lane) : Bool := decide (x.state = .fault .stopped)

/-- The sample period in milliseconds (R89). -/
def Lane.samplePeriod (x : Lane) : Nat :=
  if x.state = .parked then Config.parkedPeriod else x.cfg.sample

/-- The lane light is green (R107); every other case is red. -/
def Lane.green (x : Lane) : Bool :=
  match x.state with
  | .idle => true
  | .directed => true
  | .approach => !x.closing
  | _ => false

/-! ### Lane timers (R96) -/

/-- A timer of a lane. -/
def Lane.timer (x : Lane) (t : TimerId) : Timer := x.timers[timerIdx t]

/-- Writes a timer of a lane. -/
def Lane.setTimer (x : Lane) (t : TimerId) (v : Timer) : Lane :=
  { x with timers := x.timers.set (timerIdx t) v }

/-- Starts a timer anew with its full limit. -/
def State.startTimer (s : State) (l : LaneId) (t : TimerId) (n : Nat) : State :=
  s.modLane l (·.setTimer t (.running n))

/-- Stops a timer with no expiry. -/
def State.stopTimer (s : State) (l : LaneId) (t : TimerId) : State :=
  s.modLane l (·.setTimer t .stopped)

/-- One lane second of a timer. -/
def Timer.tick : Timer → Timer
  | .running n => .running (n - 1)
  | t => t

/-- A stop-all suspends a RUNNING timer (R102). -/
def Timer.suspend : Timer → Timer
  | .running n => .suspended n
  | t => t

/-- A resumption sets a SUSPENDED timer RUNNING (R103). -/
def Timer.resume : Timer → Timer
  | .suspended n => .running n
  | t => t

/-- The timer has reached its expiry, not yet taken. -/
def Lane.expired (x : Lane) (t : TimerId) : Bool := decide (x.timer t = .running 0)

/-- The timer is RUNNING or SUSPENDED. -/
def Lane.timerOn (x : Lane) (t : TimerId) : Bool := decide (x.timer t ≠ .stopped)

/-! ### The boom-raise output (R97) -/

/-- A withdrawal ordered of an output, by what the BOOM loop reads. -/
def BoomOutput.withdraw (o : BoomOutput) (boomOccupied : Bool) : BoomOutput :=
  match o with
  | .asserted => if boomOccupied then .withdrawPending else .withdrawn
  | o => o

/-- A withdrawal of the boom-raise output is ordered. -/
def State.orderWithdrawal (s : State) (l : LaneId) : State :=
  s.modLane l fun x => { x with output := x.output.withdraw (x.reads .boom) }

/-- The BOOM loop is accepted clear: a pending withdrawal is made. -/
def BoomOutput.boomClear : BoomOutput → BoomOutput
  | .withdrawPending => .withdrawn
  | o => o

/-! ### Visits and the changed set -/

/-- The visit in the slot that holds a number, closed and awaiting its report included. -/
def State.visit? (s : State) (n : Nat) : Option Visit := s.vt.visits.find? fun v => v.number == n

/-- The live visit with a number. -/
def State.live? (s : State) (n : Nat) : Option Visit :=
  (s.visit? n).bind fun v => if v.stage = .closed then none else some v

/-- Changes the record of a visit. -/
def State.modVisit (s : State) (n : Nat) (f : Visit → Visit) : State :=
  { s with vt := { s.vt with visits := s.vt.visits.map fun v => if v.number = n then f v else v } }

/-- The gate minute where one is present. Visits and open lanes exist only while it is (R12). -/
def State.now (s : State) : Nat := s.tb.minute.getD 0

/-- The place of a cause in the table of R82. -/
def causeIdx : Cause → Nat
  | .stage => 0 | .holds => 1 | .checks => 2 | .direction => 3 | .redirected => 4
  | .blockClosedEnRoute => 5 | .damageAfterRelease => 6 | .sealAfterRelease => 7 | .tailgate => 8
  | .closed => 9

/-- Adds a cause to a set of causes, kept in the table's order with no repeats. -/
def insertCause (c : Cause) : List Cause → List Cause
  | [] => [c]
  | d :: rest =>
    if c = d then d :: rest
    else if causeIdx c < causeIdx d then c :: d :: rest
    else d :: insertCause c rest

/-- Marks a visit in the changed set with a cause (R82). -/
def State.mark (s : State) (n : Nat) (c : Cause) : State :=
  if (s.visit? n).isSome then
    let s := s.modVisit n fun v => { v with causes := insertCause c v.causes }
    if n ∈ s.vt.changed then s
    else { s with vt := { s.vt with changed := s.vt.changed ++ [n] } }
  else s

/-- A write to a visit by the block that owns the field: refused, changing nothing, for a visit that is
ending or not live; otherwise made and marked (R64). -/
def State.writeVisit (s : State) (n : Nat) (c : Cause) (f : Visit → Visit) : State :=
  match s.live? n with
  | some v => if v.ending.isSome then s else (s.modVisit n f).mark n c
  | none => s

/-- A visit that may be written: live and not ending (R64). -/
def State.writable? (s : State) (n : Nat) : Option Visit :=
  (s.live? n).bind fun v => if v.ending.isSome then none else some v

/-- Inserts a staged visit after every one whose eligible minute is at or below its own (R80). -/
def insertStaged (key : Nat → Nat) (n : Nat) : List Nat → List Nat
  | [] => [n]
  | m :: rest => if key n < key m then n :: m :: rest else m :: insertStaged key n rest

/-- The eligible minute of a visit. -/
def State.eligibleMinute (s : State) (n : Nat) : Nat :=
  (((s.visit? n).bind (·.staging)).map (·.minute)).getD 0

/-- The staging list: by eligible minute, and among equal minutes by order of entry (R80, R62). -/
def State.stagingList (s : State) : List Nat :=
  s.vt.stagedIn.foldl (fun acc n => insertStaged s.eligibleMinute n acc) []

/-- A visit holds a staging reservation: at a lane, with a staging field (R80). -/
def Visit.reserves (v : Visit) : Bool := decide (v.stage = .atLane) && v.staging.isSome

/-- Staging places taken: entries and reservations (R80). -/
def State.stagingCount (s : State) : Nat :=
  s.vt.stagedIn.length + s.vt.visits.countP (·.reserves)

/-- The visits that are live. -/
def State.liveCount (s : State) : Nat := s.vt.visits.countP fun v => decide (v.stage ≠ .closed)

/-- The record of a visit that has closed: number and changed causes alone (R72 step 4). -/
def closedVisit (n : Nat) (causes : List Cause) : Visit :=
  { number := n, stage := .closed, lane := none, desk := none, plate := none, card := none, axle := 0
    claimed := [], moves := [], holds := [], stray := [], direction := none, staging := none
    arrival := 0, arrivalSec := 0, release := none, causes := causes, ending := none }

/-- The number after one, wrapping from 65535 to 1 (R66). -/
def nextNumber (n : Nat) : Nat := if n ≥ Config.maxVisitNumber then 1 else n + 1

/-- The first number, counting upward from `n` and wrapping, that no slot in use holds (R66). -/
def freeNumber (held : List Nat) (n : Nat) : Nat → Nat
  | 0 => n
  | fuel + 1 => if n ∈ held then freeNumber held (nextNumber n) fuel else n

/-- Creates the visit of a lane that has been granted a slot (R64, R66). Its arrival lane-second is the STOP loop's current
stamp as it stands at the grant, also where a newer STOP OCCUPY has written it while the lane waited (R92; DESIGN CHOICE,
notes/assumptions/71.md). -/
def State.createVisit (s : State) (l : LaneId) : State :=
  let held := s.vt.visits.map (·.number)
  let n := freeNumber held s.vt.next Config.slotCount
  let x := s.lane l
  let v : Visit :=
    { number := n, stage := .atLane, lane := some l, desk := none, plate := none, card := none
      axle := x.axleCount, claimed := [], moves := [], holds := [], stray := [], direction := none
      staging := none, arrival := s.now, arrivalSec := x.stamps[1].current.getD 0, release := none
      causes := [], ending := none }
  let s := { s with vt := { s.vt with visits := s.vt.visits ++ [v], next := nextNumber n } }
  let s := s.modLane l fun x =>
    { x with visit := some n, identTold := false, finalTold := false }
  s.mark n .stage

/-! ### Moves -/

/-- A move that brings a container in. -/
def isDrop : MoveKind → Bool
  | .exportDrop => true | .emptyReturn => true | _ => false

/-- The positions, from 0, of the moves of a list that satisfy a test. -/
def positions (p : MoveEntry → Bool) (ms : List MoveEntry) : List Nat :=
  (ms.zipIdx.filter fun mi => p mi.1).map (·.2)

/-- The positions of a visit's drops; slot 1 is the first, slot 2 the second (8.1). -/
def Visit.drops (v : Visit) : List Nat := positions (fun m => isDrop m.kind) v.moves

/-- Direction order: drops first, then picks, each in the order of the move list (R177). -/
def directionOrder (ms : List MoveEntry) : List Nat :=
  positions (fun m => isDrop m.kind) ms ++ positions (fun m => !isDrop m.kind) ms

/-- The position of the drop in a slot. -/
def Visit.dropOf (v : Visit) (slot : Nat) : Option Nat :=
  if slot = 0 then none else v.drops[slot - 1]?

/-- Every move of the visit is DIRECTED. -/
def Visit.allDirected (v : Visit) : Bool := v.moves.all fun m => decide (m.state = .directed)

/-- A direction is complete: a stop direction naming every move, every move DIRECTED (R179). -/
def Visit.complete (v : Visit) : Bool :=
  match v.direction with
  | some (.stops l) =>
    v.allDirected && decide ((l.map (·.moves.length)).sum = v.moves.length)
  | _ => false

/-! ### Places of the trouble area (R189) -/

/-- A desk is SERVING. -/
def Desk.isServing : Desk → Bool
  | .serving .. => true
  | .free => false

/-- The place count: queued visits, admissions and SERVING desks. -/
def State.placeCount (s : State) : Nat :=
  s.td.queue.length + s.td.admissions.length + s.td.desks.toList.countP (·.isServing)

/-- Writes a desk position. -/
def State.setDesk (s : State) (d : DeskId) (x : Desk) : State :=
  { s with td := { s.td with desks := s.td.desks.set d x } }

/-! ### The Control Port's answers (R201) -/

/-- A response joins the tail of the response queue. -/
def State.respond (s : State) (tag : Byte) (st : Status) (payload : List Field) : State :=
  { s with cp := { s.cp with responses := s.cp.responses ++ [{ tag, status := st, payload }] } }

/-- The command in progress completes: its response takes its reserved place and the port is free. -/
def State.complete (s : State) (st : Status) (payload : List Field := []) : State :=
  match s.cp.inProgress with
  | some p =>
    ({ s with cp := { s.cp with inProgress := none } }).respond p.tag st payload
  | none => s

/-- The command in progress goes on to a later phase. -/
def State.setPhase (s : State) (ph : Phase) : State :=
  { s with cp := { s.cp with inProgress := s.cp.inProgress.map fun p => { p with phase := ph } } }

/-- Places of the response queue occupied or reserved. -/
def State.placesTaken (s : State) : Nat :=
  s.cp.responses.length + (if s.cp.inProgress.isSome then 1 else 0)

end Sys2Proof.Machine
end

