-- ==== Sys2Proof/Machine/Flags.lean ====
section
/-! DEFINITION. Flags: the seven gate flags and the attention line (R202), the clock state with its
CLOCK_CHANGED flag (R4), the sticky flags of a link (R118), and what their masks clear. -/

namespace Sys2Proof.Machine

/-- Sets gate flags; setting a set flag changes nothing (R202). -/
def State.setFlags (s : State) (f : GateMask → GateMask) : State :=
  { s with cp := { s.cp with flags := f s.cp.flags } }

/-- LANE_FAULT is set (R99, R148). -/
def State.flagLaneFault (s : State) : State := s.setFlags fun m => { m with laneFault := true }

/-- LINK_OFFLINE is set (R114). -/
def State.flagLinkOffline (s : State) : State := s.setFlags fun m => { m with linkOffline := true }

/-- SYNC_REJECT is set (R8). -/
def State.flagSyncReject (s : State) : State := s.setFlags fun m => { m with syncReject := true }

/-- STOP_ALL is set (R101). -/
def State.flagStopAll (s : State) : State := s.setFlags fun m => { m with stopAll := true }

/-- TROUBLE_FULL is set when the place count has reached 16 (R189). -/
def State.flagTroubleFull (s : State) : State :=
  if s.placeCount ≥ Config.troublePlaces then s.setFlags fun m => { m with troubleFull := true }
  else s

/-- PORT_FAULT is set with its cause (R200, R201, R203). -/
def State.flagPortFault (s : State) (c : PortFaultCause) : State :=
  { s with cp := { s.cp with flags := { s.cp.flags with portFault := true }, faultCause := some c } }

/-- Any gate flag is set. -/
def GateMask.any (m : GateMask) : Bool :=
  m.clockChanged || m.syncReject || m.stopAll || m.laneFault || m.linkOffline || m.troubleFull
    || m.portFault

/-- ATTN is asserted while the changed set is not empty or any gate flag is set (R202). -/
def State.attn (s : State) : Bool := !s.vt.changed.isEmpty || GateMask.any s.cp.flags

/-- The flags left when those a mask names are cleared. -/
def GateMask.minus (m clear : GateMask) : GateMask :=
  { clockChanged := m.clockChanged && !clear.clockChanged
    syncReject := m.syncReject && !clear.syncReject
    stopAll := m.stopAll && !clear.stopAll
    laneFault := m.laneFault && !clear.laneFault
    linkOffline := m.linkOffline && !clear.linkOffline
    troubleFull := m.troubleFull && !clear.troubleFull
    portFault := m.portFault && !clear.portFault }

/-- GATE_STATUS clears the flags its mask names; TROUBLE_FULL stays while the place count is 16 (R202). -/
def State.clearFlags (s : State) (clear : GateMask) : State :=
  let keep := decide (s.placeCount ≥ Config.troublePlaces)
  s.setFlags fun m => GateMask.minus m { clear with troubleFull := clear.troubleFull && !keep }

/-- The clock state is written; a change sets CLOCK_CHANGED (R4). -/
def State.setClock (s : State) (c : ClockState) : State :=
  if s.tb.clock = c then s
  else ({ s with tb := { s.tb with clock := c } }).setFlags fun m => { m with clockChanged := true }

/-- The state a clock degrades to at a count of minutes since sync (R4, R5). -/
def ClockState.degrade (c : ClockState) (sinceSync p hx : Nat) : ClockState :=
  match c with
  | .locked =>
    if sinceSync ≥ p + hx then .lost else if sinceSync ≥ p then .holdover else .locked
  | .holdover => if sinceSync ≥ p + hx then .lost else .holdover
  | c => c

/-- The state checks of R4 and R5, and R1's LOST at the top of the gate minute. -/
def State.checkClock (s : State) : State :=
  let c := s.tb.clock.degrade s.tb.sinceSync s.tb.p s.tb.hx
  s.setClock (if s.tb.minute = some Config.maxMinute then .lost else c)

/-- Any sticky link flag is named or set. -/
def LinkMask.any (m : LinkMask) : Bool := m.parity || m.frame || m.badMsg || m.brk || m.overrun

/-- The sticky flags set by both. -/
def LinkMask.union (m k : LinkMask) : LinkMask :=
  { parity := m.parity || k.parity, frame := m.frame || k.frame, badMsg := m.badMsg || k.badMsg
    brk := m.brk || k.brk, overrun := m.overrun || k.overrun }

/-- The sticky flags left when those a mask names are cleared (R126). -/
def LinkMask.minus (m clear : LinkMask) : LinkMask :=
  { parity := m.parity && !clear.parity, frame := m.frame && !clear.frame
    badMsg := m.badMsg && !clear.badMsg, brk := m.brk && !clear.brk
    overrun := m.overrun && !clear.overrun }

/-- Changes a lane's link. -/
def State.modLink (s : State) (l : LaneId) (f : Link → Link) : State :=
  s.modLane l fun x => { x with link := f x.link }

/-- Sets sticky flags of a link (R118). -/
def State.setLinkFlags (s : State) (l : LaneId) (m : LinkMask) : State :=
  s.modLink l fun k => { k with flags := LinkMask.union k.flags m }

/-- The sticky flags a message fault sets (the table of R118). -/
def MsgFault.flags : MsgFault → LinkMask
  | .parity => { noLinkFlags with parity := true }
  | .frame => { noLinkFlags with frame := true }
  | .parityAndFrame => { noLinkFlags with parity := true, frame := true }
  | .length | .kind | .sum | .payload => { noLinkFlags with badMsg := true }

end Sys2Proof.Machine
end

