-- ==== Sys2Proof/Machine/Operands.lean ====
section
/-! DEFINITION. The forms of operands: character fields, the container identifier check (R22), the form
of a booking (R29), clamping (00_scope.md, "Clamped"). -/

namespace Sys2Proof.Machine

/-- A digit (R207). -/
def isDigit (b : Byte) : Bool := decide (48 ≤ b.toNat) && decide (b.toNat ≤ 57)

/-- A capital letter (R207). -/
def isUpper (b : Byte) : Bool := decide (65 ≤ b.toNat) && decide (b.toNat ≤ 90)

/-- A digit or a capital letter. -/
def isAlnum (b : Byte) : Bool := isDigit b || isUpper b

/-- A text whose length is in a range and whose characters all pass a test. -/
def textForm (p : Byte → Bool) (lo hi : Nat) (t : Text) : Bool :=
  decide (lo ≤ t.length) && decide (t.length ≤ hi) && t.all p

/-- A booking ref: 10 digits and capital letters (2.1). -/
def refForm (t : Text) : Bool := textForm isAlnum 10 10 t
/-- A plate: 1 to 10 digits and capital letters (2.1). -/
def plateForm (t : Text) : Bool := textForm isAlnum 1 10 t
/-- A driver card: 1 to 16 digits (2.1). -/
def cardForm (t : Text) : Bool := textForm isDigit 1 16 t
/-- A carrier code: four capital letters (R19). -/
def carrierForm (t : Text) : Bool := textForm isUpper 4 4 t
/-- A seal number: 1 to 12 digits and capital letters (R16). -/
def sealForm (t : Text) : Bool := textForm isAlnum 1 12 t
/-- A release number: 1 to 12 digits and capital letters (R16). -/
def releaseForm (t : Text) : Bool := textForm isAlnum 1 12 t
/-- A stop label: up to 8 digits and capital letters (9.1). -/
def labelForm (t : Text) : Bool := textForm isAlnum 0 8 t

/-- The value of a character in the identifier check: a digit's face value, a letter's value from R22's
table, which runs upward from 10 and skips 11, 22 and 33. -/
def charValue (b : Byte) : Nat :=
  if isDigit b then b.toNat - 48
  else
    let i := b.toNat - 65
    10 + i + (if i ≥ 1 then 1 else 0) + (if i ≥ 11 then 1 else 0) + (if i ≥ 21 then 1 else 0)

/-- The sum of the products of the characters with the weights from `w` on, doubling (R22). -/
def weightedSum : Nat → Text → Nat
  | _, [] => 0
  | w, b :: rest => charValue b * w + weightedSum (2 * w) rest

/-- The check value of the first ten characters (R22). -/
def checkValue (t : Text) : Nat := weightedSum 1 (t.take 10) % 11 % 10

/-- A container id is accepted (R22). -/
def containerOk (t : Text) : Bool :=
  match t with
  | [a, b, c, d, e, f, g, h, i, j, k] =>
    isUpper a && isUpper b && isUpper c
      && (decide (d = 85) || decide (d = 74) || decide (d = 90))
      && [e, f, g, h, i, j, k].all isDigit
      && decide (charValue k = checkValue t)
  | _ => false

/-- A value given is inside its form; one not given passes. -/
def optForm {α : Type} (p : α → Bool) : Option α → Bool
  | some a => p a
  | none => true

/-- One move has the fields its kind requires, in form (R16, R29). Of a field its kind does not have, no rule says
that it is refused: seals and a release number are checked for form all the same, and the move is stored as given (DESIGN
CHOICE, notes/assumptions/36.md). -/
def moveForm (m : BookMove) : Bool :=
  (match m.kind with
    | .exportDrop => m.container.isSome
    | .emptyReturn => m.container.isSome
    | .importPick => m.container.isSome && m.release.isSome
    | .emptyPick => m.container.isNone && optForm (fun n => decide (n = 20 ∨ n = 40)) m.size)
    && decide (m.seals.length ≤ 3) && decide m.seals.Nodup && m.seals.all sealForm
    && optForm releaseForm m.release

/-- The move list: one or two moves, at most one drop and one pick, each in form (R29). -/
def movesForm (ms : List BookMove) : Bool :=
  decide (1 ≤ ms.length) && decide (ms.length ≤ 2)
    && decide (ms.countP (fun m => isDrop m.kind) ≤ 1)
    && decide (ms.countP (fun m => !isDrop m.kind) ≤ 1)
    && ms.all moveForm

/-- The drop and the pick of a list name the same container id (R16). -/
def sameContainer (ms : List BookMove) : Bool :=
  match ms with
  | [a, b] => a.container.isSome && decide (a.container = b.container)
  | _ => false

/-- The first failure of form of the fields BOOK_ADD and BOOK_AMEND write, in the order of R29. -/
def bookingForm (plate card : Option Text) (pool : Pool) (special : Special) (ms : List BookMove)
    (preferred : Option Nat) : Option Status :=
  if !(optForm plateForm plate && optForm cardForm card
      && optForm (fun n => decide (n ≤ 31)) preferred) then some .badValue
  else if !movesForm ms then some .badValue
  else if sameContainer ms then some .badValue
  else if pool = .reserve ∧ special = .plain then some .badValue
  else if !(ms.all fun m => optForm containerOk m.container) then some .badContainer
  else none

/-- A value clamped to a range. -/
def clampTo (lo hi n : Nat) : Nat := max lo (min hi n)

/-- A setting after a write that may give it: clamped to its range, or left. -/
def setClamped (lo hi : Nat) (given : Option Nat) (old : Nat) : Nat :=
  match given with
  | some n => clampTo lo hi n
  | none => old

/-- A given value lies outside its range. -/
def outside (lo hi : Nat) (given : Option Nat) : Bool :=
  match given with
  | some n => decide (n < lo) || decide (hi < n)
  | none => false

/-- A number in a range. -/
def inRange (lo hi n : Nat) : Bool := decide (lo ≤ n) && decide (n ≤ hi)

/-- A slot operand is absent, 1 or 2. -/
def slotForm (slot : Option Nat) : Bool := optForm (inRange 1 2) slot

/-- OK, or OK_CLAMPED if a value was clamped (R205). -/
def okStatus (clamped : Bool) : Status := if clamped then .okClamped else .ok

end Sys2Proof.Machine
end

