-- ==== Sys2Proof/Machine/Link.lean ====
section
/-! DEFINITION. The Pedestal Link (chapter 6): the bytes of a message (R207), the transmit queue and its
placements (R121), the beginning of a message (R122), and the checks of a received message (R118, R120).
What the lane does with a ticket report is not here: a function that ends tickets returns the reports. -/

namespace Sys2Proof.Machine

/-! ### Bytes (R207) -/

/-- A number as `k` bytes, high byte first. -/
def beBytes : Nat → Nat → List Byte
  | 0, _ => []
  | k + 1, n => BitVec.ofNat 8 (n / 256 ^ k) :: beBytes k n

/-- The sum of bytes modulo 256. -/
def byteSum (l : List Byte) : Byte := l.foldl (· + ·) 0

/-- A character field: its count byte, then the characters. -/
def countedText (t : Text) : List Byte := BitVec.ofNat 8 t.length :: t

/-- The place of a prompt code in the table of R124. -/
def promptByte : PromptCode → Nat
  | .identify => 0 | .enterRef => 1 | .enterSeals => 2 | .reenterContainer => 3 | .wait => 4
  | .goTrouble => 5 | .goStaging => 6 | .returnLater => 7 | .proceed => 8 | .laneClosed => 9

/-- The byte of a move kind in a direction. -/
def moveKindByte : MoveKind → Nat
  | .exportDrop => 0 | .emptyReturn => 1 | .importPick => 2 | .emptyPick => 3

/-- A stop of a direction. -/
def stopBytes (p : Stop) : List Byte :=
  beBytes 1 p.block.val ++ beBytes 1 p.route ++ countedText p.label ++ beBytes 1 p.moves.length
    ++ p.moves.flatMap fun m =>
      BitVec.ofNat 8 (moveKindByte m.1) :: (match m.2 with
        | some t => t
        | none => [])

/-- The form byte and body of a direction. -/
def directionBytes : Direction → List Byte
  | .stops l => BitVec.ofNat 8 l.length :: l.flatMap stopBytes
  | .staging m => 5 :: beBytes 3 m
  | .trouble => [6]

/-- The kind character of an outbound message. -/
def OutMsg.kind : OutMsg → Byte
  | .prompt _ => 112 | .direction .. => 100 | .ticket .. => 116 | .resetKiosk => 122

/-- The payload of an outbound message. -/
def OutMsg.payload : OutMsg → List Byte
  | .prompt p => beBytes 1 (promptByte p.code) ++ (match p.minute with
      | some m => beBytes 3 m
      | none => [])
  | .direction v d => beBytes 2 v ++ directionBytes d
  | .ticket _ v d m => beBytes 3 m ++ beBytes 2 v ++ directionBytes d
  | .resetKiosk => []

/-- The characters of an outbound message. -/
def OutMsg.chars (m : OutMsg) : List Byte :=
  let body := m.kind :: BitVec.ofNat 8 m.payload.length :: m.payload
  Config.startChar :: body ++ [-(byteSum body)]

/-! ### The transmit queue (R121, R122) -/

/-- Two outbound messages are of one kind. -/
def OutMsg.sameKind (a b : OutMsg) : Bool := decide (a.kind = b.kind)

/-- The report of a ticket that ends so; none for another message. -/
def OutMsg.report (m : OutMsg) (o : TicketOutcome) : List TicketReport :=
  match m with
  | .ticket id v _ _ => [{ id, visit := v, outcome := o }]
  | _ => []

/-- The first message of a kind gives its place to a newer one of that kind. -/
def replaceKind (m : OutMsg) : List OutMsg → List OutMsg
  | [] => []
  | k :: rest => if k.sameKind m then m :: rest else k :: replaceKind m rest

/-- The link begins the head message when it may (R122). -/
def Link.advance (k : Link) : Link :=
  match k.tx, k.txQueue with
  | none, m :: rest =>
    if k.online && k.cts then { k with tx := some { msg := m, sent := 0 }, txQueue := rest } else k
  | _, _ => k

/-- The count of characters sent is read: it has grown since it was read last by as many as have left the link, and the
message is still in transmission, so that at least one is to come (R126; notes/assumptions/11.md). The free value takes this
link's own count of readings alone, so two links, or one before and after a reset, share it (DESIGN CHOICE,
notes/assumptions/11.md). -/
def Link.observe (k : Link) : Link :=
  match k.tx with
  | some t =>
    { k with
      tx := some { t with sent := min (t.msg.chars.length - 1) (t.sent + Config.charsSince k.reads) }
      reads := k.reads + 1 }
  | none => k

/-- A message is queued: placed by its kind on an ONLINE link, discarded on an OFFLINE one (R121); the
reports of the tickets this ends (R123). -/
def Link.queue (k : Link) (m : OutMsg) : Link × List TicketReport :=
  if !k.online then (k, m.report .droppedOffline)
  else
    match m with
    | .resetKiosk =>
      (Link.advance { k with txQueue := [m] }, k.txQueue.flatMap (·.report .cleared))
    | _ =>
      match k.txQueue.find? (·.sameKind m) with
      | some old => (Link.advance { k with txQueue := replaceKind m k.txQueue }, old.report .replaced)
      | none => (Link.advance { k with txQueue := k.txQueue ++ [m] }, [])

/-- The outbound side and the receive buffer are emptied, as at a break or a change of rate (R112, R115);
the tickets lost. -/
def Link.drop (k : Link) : Link × List TicketReport :=
  ({ k with online := false, tx := none, txQueue := [], rxBuf := none },
    (match k.tx with
      | some t => t.msg.report .droppedOffline
      | none => []) ++ k.txQueue.flatMap (·.report .droppedOffline))

/-- A report is given to the lane: it stands as the link's latest (R123). -/
def Link.noteReports (k : Link) (rs : List TicketReport) : Link :=
  match rs.getLast? with
  | some r => { k with lastReport := some r }
  | none => k

/-- The lane queues a message for which it waits on no report. Tickets this ends are of no send-off the
lane still waits on: their reports are noted only (R144). -/
def State.queueMsg (s : State) (l : LaneId) (m : OutMsg) : State :=
  s.modLink l fun k =>
    let (k, rs) := k.queue m
    k.noteReports rs

/-- The lane queues a prompt. -/
def State.queuePrompt (s : State) (l : LaneId) (c : PromptCode) (minute : Option Nat := none) : State :=
  s.queueMsg l (.prompt { code := c, minute })

/-! ### Received messages (R118, R120) -/

/-- The slot character of KEYED_CONTAINER and SEAL_READ (R207). -/
def slotChar (b : Byte) : Option (Option Nat) :=
  if b = 48 then some none else if b = 49 then some (some 1) else if b = 50 then some (some 2)
  else none

/-- A message whose payload fits its kind (R120), or none. -/
def fitMsg : InMsg → Option InMsg
  | .card t => if cardForm t then some (.card t) else none
  | .keyedRef t => if refForm t then some (.keyedRef t) else none
  | .keyedContainer t slot =>
    if textForm isAlnum 1 11 t && slotForm slot then some (.keyedContainer t slot) else none
  | .sealRead t slot => if sealForm t && slotForm slot then some (.sealRead t slot) else none
  | m => some m

/-- The message a kind and payload spell, its form not yet checked: none when no field fits, and the outer
none for a kind that is not inbound (R207). -/
def readMsg (kind : Byte) (payload : List Byte) : Option (Option InMsg) :=
  if kind = 67 then some (some (.card payload))
  else if kind = 82 then some (some (.keyedRef payload))
  else if kind = 75 ∨ kind = 83 then
    some (match payload with
      | b :: t => (slotChar b).map fun slot =>
          if kind = 75 then .keyedContainer t slot else .sealRead t slot
      | [] => none)
  else if kind = 80 then
    some (if payload = [72] then some (.press .help)
      else if payload = [75] then some (.press .confirm)
      else if payload = [88] then some (.press .cancel) else none)
  else if kind = 72 then some (if payload = [] then some .hello else none)
  else none

/-- A complete message of the receiver is checked at its sum character (R118). -/
def checkMsg (chars : List Byte) : Except MsgFault InMsg :=
  match chars with
  | _ :: kind :: len :: rest =>
    let payload := rest.take len.toNat
    match readMsg kind payload with
    | none => .error .kind
    | some m =>
      if byteSum (kind :: len :: rest) ≠ 0 then .error .sum
      else
        match m.bind fitMsg with
        | some m => .ok m
        | none => .error .payload
  | _ => .error .payload

/-- The parity of the line is even: the data bits and the parity bit hold an even number of ones (R112). -/
def parityOk (data : Byte) (parityBit : Bool) : Bool :=
  decide ((((List.finRange 8).countP fun i => data.getLsb i) + (if parityBit then 1 else 0)) % 2 = 0)

/-- The receiver discards the message in assembly and returns to HUNT, setting sticky flags (R118). -/
def State.rxFault (s : State) (l : LaneId) (flags : LinkMask) : State :=
  (s.modLink l fun k => { k with rx := .hunt, assembly := [] }).setLinkFlags l flags

end Sys2Proof.Machine
end

