-- ==== Sys2Proof/Machine/Seals.lean ====
section
/-! DEFINITION. Seal and damage records as functions of a visit alone (chapter 8): verdicts, the closing of
drops, the assignment of a read, and the damage index. -/

namespace Sys2Proof.Machine

/-- A read of a seal number is in a list. -/
def hasRead (t : Text) (l : List SealRead) : Bool := l.any fun r => decide (r.num = t)

/-- The verdict of a closing or closed drop, by the first row of R158's table that fits. -/
def SealRecord.judge (r : SealRecord) (strayEmpty : Bool) : Verdict :=
  if r.reads.isEmpty then .unread
  else if !(r.declared.all fun t => hasRead t r.reads) then .missing
  else if (r.reads.any fun x => !r.declared.contains x.num) || !strayEmpty then .foreign
  else .matched

/-- Changes the seal record of every sealed drop of a visit. -/
def Visit.mapSeals (v : Visit) (f : SealRecord → SealRecord) : Visit :=
  { v with moves := v.moves.map fun m => { m with sealRec := m.sealRec.map f } }

/-- The seal records of a visit's sealed drops, in slot order. -/
def Visit.seals (v : Visit) : List SealRecord := v.moves.filterMap (·.sealRec)

/-- Drops in a window state close, each with its verdict (R158, R162). -/
def Visit.closeDrops (v : Visit) (w : WindowState) : Visit :=
  v.mapSeals fun r =>
    if r.window = w then { r with window := .closed, verdict := some (r.judge v.stray.isEmpty) } else r

/-- The verdicts of all CLOSED drops are computed again (R158). -/
def Visit.rejudge (v : Visit) : Visit :=
  v.mapSeals fun r =>
    if r.window = .closed then { r with verdict := some (r.judge v.stray.isEmpty) } else r

/-- NOT_OPENED drops open (R156). -/
def Visit.openDrops (v : Visit) : Visit :=
  v.mapSeals fun r => if r.window = .notOpened then { r with window := .opened } else r

/-- Some sealed drop is in a window state. -/
def Visit.anyDrop (v : Visit) (w : WindowState) : Bool := v.seals.any fun r => decide (r.window = w)

/-- Some CLOSED drop's verdict is MISSING, FOREIGN or UNREAD (R159). -/
def Visit.anyWrong (v : Visit) : Bool :=
  v.seals.any fun r => decide (r.window = .closed) && decide (r.verdict ≠ some .matched)

/-- Some drop's verdict is MATCH after a change and was not before it (R159). -/
def becameMatch (before after : Visit) : Bool :=
  (before.seals.zip after.seals).any fun p =>
    decide (p.2.verdict = some .matched) && decide (p.1.verdict ≠ some .matched)

/-- The window may close early: every declared seal of every OPEN drop is read and no read is stray (R158). -/
def Visit.mayCloseEarly (v : Visit) : Bool :=
  v.anyDrop .opened && v.stray.isEmpty
    && v.seals.all fun r => decide (r.window ≠ .opened) || r.declared.all fun t => hasRead t r.reads

/-- The seal part of the checks is final: every sealed drop is CLOSED (R170). -/
def Visit.sealsFinal (v : Visit) : Bool := v.seals.all fun r => decide (r.window = .closed)

/-! ### The assignment of a read (R157) -/

/-- The seal record of the move at a position. -/
def Visit.sealAt (v : Visit) (i : Nat) : Option SealRecord := v.moves[i]?.bind (·.sealRec)

/-- The drop at a position declares a seal number. -/
def Visit.declares (v : Visit) (t : Text) (i : Nat) : Bool :=
  match v.sealAt i with
  | some r => r.declared.contains t
  | none => false

/-- Where a read goes: the positions of drops, leaving the stray list or not, or the stray list. -/
inductive ReadTarget
  | drops (l : List Nat)
  | fromStray (i : Nat)
  | stray
  deriving DecidableEq, Repr

/-- The first case of R157 that fits. -/
def Visit.readTarget (v : Visit) (t : Text) (slot : Option Nat) : ReadTarget :=
  let named := slot.bind v.dropOf
  let declaring := v.drops.filter (v.declares t)
  let sealedNamed := named.bind fun i => if (v.sealAt i).isSome then some i else none
  match named.bind fun i => if v.declares t i then some i else none with
  | some i => .drops [i]
  | none =>
    if !declaring.isEmpty then .drops declaring
    else
      match slot, sealedNamed with
      | _, some i => if hasRead t v.stray then .fromStray i else .drops [i]
      | none, none =>
        match v.drops with
        | [i] => if (v.sealAt i).isSome then .drops [i] else .stray
        | _ => .stray
      | some _, none => .stray

/-- The phase of a read by the window state of the drop it is assigned to (R160, R161). -/
def phaseOf (released : Bool) : WindowState → ReadPhase
  | .notOpened => if released then .afterRelease else .preWindow
  | .opened => if released then .afterRelease else .inWindow
  | .closed => if released then .afterRelease else .late

/-- The phase of a stray read, which no rule ties to one drop: IN_WINDOW while the visit's window is open,
PRE_WINDOW while a sealed drop is NOT_OPENED, LATE otherwise (DEDUCED, notes/assumptions/14.md; safe). -/
def Visit.strayPhase (v : Visit) : ReadPhase :=
  if v.stage = .released then .afterRelease
  else if v.anyDrop .opened then .inWindow
  else if v.anyDrop .notOpened then .preWindow
  else .late

/-- What became of a read (R163). -/
inductive ReadFate | drop1 | drop2 | both | stray | again | discarded
  deriving DecidableEq, Repr

/-- A read list takes a read, unless it repeats one or the list is full (R157). -/
def takeInto (cap : Nat) (r : SealRead) (l : List SealRead) : List SealRead :=
  if hasRead r.num l || decide (cap ≤ l.length) then l else l ++ [r]

/-- A read enters a seal record, with the phase its window gives (R157, R160, R161). -/
def SealRecord.enter (r : SealRecord) (t : Text) (src : ReadSource) (released : Bool) : SealRecord :=
  let x : SealRead := { num := t, source := src, phase := phaseOf released r.window }
  { r with reads := takeInto Config.readListSize x r.reads }

/-- Enters a read in the read list of the drop at a position. -/
def Visit.enterRead (v : Visit) (t : Text) (src : ReadSource) (i : Nat) : Visit :=
  let f := fun m : MoveEntry =>
    { m with sealRec := m.sealRec.map (·.enter t src (decide (v.stage = .released))) }
  { v with moves := v.moves.modify i f }

/-- The read list of the drop at a position would take a read of a number. -/
def Visit.takesRead (v : Visit) (t : Text) (i : Nat) : Bool :=
  match v.sealAt i with
  | some r => !hasRead t r.reads && decide (r.reads.length < Config.readListSize)
  | none => false

/-- The drop at a position already holds a read of a number. -/
def Visit.holdsRead (v : Visit) (t : Text) (i : Nat) : Bool :=
  match v.sealAt i with
  | some r => hasRead t r.reads
  | none => false

/-- The slot, 1 or 2, of the drop at a position, as a fate. -/
def Visit.fateAt (v : Visit) (i : Nat) : ReadFate := if v.drops[0]? = some i then .drop1 else .drop2

/-- A read is taken: the visit after it, and what became of the read (R157). The verdicts are not yet
computed again. Of a number both drops declare, the fate where only one of the two lists takes it is the model's (DESIGN
CHOICE, notes/assumptions/49.md). -/
def Visit.takeRead (v : Visit) (t : Text) (src : ReadSource) (slot : Option Nat) : Visit × ReadFate :=
  match v.readTarget t slot with
  | .drops l =>
    let taking := l.filter (v.takesRead t)
    let v' := taking.foldl (fun a i => a.enterRead t src i) v
    match taking with
    | [] => (v, if l.any (v.holdsRead t) then .again else .discarded)
    | [i] => (v', v.fateAt i)
    | _ => (v', .both)
  | .fromStray i =>
    if v.takesRead t i then
      let v' := v.enterRead t src i
      ({ v' with stray := v'.stray.filter fun r => decide (r.num ≠ t) }, v.fateAt i)
    else (v, if v.holdsRead t i then .again else .discarded)
  | .stray =>
    if hasRead t v.stray then (v, .again)
    else if v.stray.length ≥ Config.strayListSize then (v, .discarded)
    else
      ({ v with stray := v.stray ++ [{ num := t, source := src, phase := v.strayPhase }] }, .stray)

/-- Every read of a seal number is struck out (R163). -/
def Visit.strikeRead (v : Visit) (t : Text) : Visit :=
  let w := v.mapSeals fun r => { r with reads := r.reads.filter fun x => decide (x.num ≠ t) }
  { w with stray := v.stray.filter fun x => decide (x.num ≠ t) }

/-- A seal number is in a read list or the stray list of a visit. -/
def Visit.holdsSeal (v : Visit) (t : Text) : Bool :=
  hasRead t v.stray || v.seals.any fun r => hasRead t r.reads

/-! ### Damage records (8.3) -/

/-- The place of a zone in R165's table. -/
def zoneIdx : Zone → Fin 7
  | .front => 0 | .doorEnd => 1 | .left => 2 | .right => 3 | .roof => 4 | .underside => 5
  | .cornerPosts => 6

/-- The damage index of zone severities under zone weights (R165). -/
def damageIndex (weights severity : Vector Nat 7) : Nat :=
  min Config.maxIndex (((weights.zipWith (fun w g => w * (g * g)) severity).toList).sum)

/-- A finding is taken: its zone, the count, and past the release point the after-release count (R164).
The index is computed after the last finding. -/
def DamageRecord.take (d : DamageRecord) (released : Bool) (f : Finding) : DamageRecord :=
  let z := zoneIdx f.zone
  let g := min f.severity Config.maxSeverity
  { d with
    severity := d.severity.set z (max d.severity[z] g)
    count := min Config.maxFindings (d.count + 1)
    after := if released then min Config.maxFindings (d.after + 1) else d.after }

/-- Findings are taken in order and the index is computed anew (R164, R165, R167). -/
def DamageRecord.takeAll (d : DamageRecord) (weights : Vector Nat 7) (released : Bool)
    (fs : List Finding) : DamageRecord :=
  let d := fs.foldl (fun a f => a.take released f) d
  { d with index := damageIndex weights d.severity }

/-- A seal record as it is created at a claim; none for a drop that declares no seal (R155). -/
def newSealRecord (m : BookMove) : Option SealRecord :=
  match m.kind with
  | .exportDrop =>
    if m.seals.isEmpty then none
    else some { declared := m.seals, reads := [], window := .notOpened, verdict := none }
  | _ => none

/-- A damage record as it is created at a claim; none for a pick (R164). -/
def newDamageRecord (k : MoveKind) : Option DamageRecord :=
  if isDrop k then some { severity := Vector.replicate 7 0, count := 0, index := 0, after := 0 }
  else none

/-- A booking's move as it enters a visit (R65). -/
def newMove (owner : Text) (m : BookMove) : MoveEntry :=
  { kind := m.kind, container := if m.kind = .emptyPick then none else m.container, owner
    state := .pending, block := none
    sealRec := newSealRecord m, damage := newDamageRecord m.kind }

end Sys2Proof.Machine
end

