-- ==== Sys2Proof/Machine/Holds.lean ====
section
/-! DEFINITION. Holds and what follows from them: placement and release (R75 to R77), a lane's entry to HELD
(R149), the TROUBLE send-off (R144, R162, R192), the Trouble Desk Unit's places (R190, R191), and a lane's
action when its hold list gains a hold or empties (R145, R149). Each function uses only those before it. -/

namespace Sys2Proof.Machine

/-! ### Placement and release -/

/-- A visit holds a reason. -/
def Visit.holdsReason (v : Visit) (r : HoldReason) : Bool := v.holds.any fun h => decide (h.reason = r)

/-- The hold list without a reason. -/
def withoutReason (r : HoldReason) (l : List Hold) : List Hold :=
  l.filter fun h => decide (h.reason ≠ r)

/-- A placement as the Visit Table takes it, the first case of R75 that fits. -/
def State.placeHold (s : State) (n : Nat) (r : HoldReason) (src : HoldSource) : State × HoldAnswer :=
  match s.writable? n with
  | none => (s, .wrongState)
  | some v =>
    if v.stage = .released then (s, .wrongState)
    else if v.holdsReason r then
      ((s.modVisit n fun v =>
          { v with holds := v.holds.map fun h => if h.reason = r then { h with source := src } else h }).mark
        n .holds, .replaced)
    else
      let new : Hold := { reason := r, source := src, placed := s.now }
      if v.holds.length < Config.holdListSize then
        ((s.modVisit n fun v => { v with holds := v.holds ++ [new] }).mark n .holds, .placed)
      else if v.holdsReason .clerk then
        ((s.modVisit n fun v => { v with holds := withoutReason .clerk v.holds ++ [new] }).mark n .holds,
          .displaced)
      else (s.mark n .holds, .full)

/-- A release that removes the hold, with R77's CLERK in the same write where it would empty a QUEUED
visit's list. The mark tells whether CLERK was substituted. -/
def State.dropHold (s : State) (n : Nat) (r : HoldReason) : State × Bool :=
  match s.writable? n with
  | none => (s, false)
  | some v =>
    if !v.holdsReason r then (s, false)
    else
      let left := withoutReason r v.holds
      let subst := left.isEmpty && decide (v.stage = .queued)
      let left := if subst then [{ reason := .clerk, source := .system, placed := s.now }] else left
      ((s.modVisit n fun v => { v with holds := left }).mark n .holds, subst)

/-! ### A lane's entry to HELD and RELEASING -/

/-- The present prompt of a send-off (R144). -/
def SendOff.prompt (o : SendOff) : Prompt :=
  match o.dest with
  | .yard => { code := .proceed, minute := none }
  | .staging => { code := .goStaging, minute := some (o.minute.getD 0) }
  | .trouble => { code := .goTrouble, minute := none }
  | .back =>
    match o.minute with
    | some m => { code := .returnLater, minute := some m }
    | none => { code := .proceed, minute := none }

/-- A raise ordered for the present send-off is taken back: RAISE_LIMIT stops and a withdrawal is ordered
(R145). -/
def State.cancelRaise (s : State) (l : LaneId) : State :=
  match (s.lane l).sendOff with
  | some o => if o.raiseOrdered then (s.stopTimer l .raise).orderWithdrawal l else s
  | none => s

/-- A lane enters HELD: HOLD_LIMIT starts anew unless its trouble place is BLOCKED, and PROMPT WAIT is queued
(R149). -/
def State.enterHeld (s : State) (l : LaneId) : State :=
  let s := s.modLane l fun x => { x with state := .held, sendOff := none }
  let x := s.lane l
  let s := if x.trouble = .blocked then s else s.startTimer l .hold x.cfg.holdLimit
  s.queuePrompt l .wait

/-- A lane leaves a send-off whose raise has completed: it unbinds the visit, records it as last released,
enters RELEASING, starts CLEAR_LIMIT (R146), and the check windows of the visit stop (R166, R170). -/
def State.enterReleasing (s : State) (l : LaneId) : State :=
  let s := s.modLane l fun x =>
    { x with
      lastReleased := x.visit, visit := none, endedPrompt := x.sendOff.map (·.prompt)
      sendOff := none, state := .releasing, exitTaken := false, trouble := .none
      keptEvents := [], keptGrant := false, identTold := false, finalTold := false }
  ((s.stopTimer l .sealWindow).stopTimer l .damageWindow).startTimer l .clear (s.lane l).cfg.clearLimit

/-! ### Send-offs -/

/-- A fresh TICKET, composed now, is queued and AWAITED (R125, R144). The mark tells that the link was OFFLINE, so
that the ticket is reported DROPPED_OFFLINE at once. -/
def State.freshTicket (s : State) (l : LaneId) : State × Bool :=
  let x := s.lane l
  match x.visit.bind s.visit? with
  | some v =>
    match v.direction with
    | some d =>
      let id := x.link.nextTicket
      let s := s.modLane l fun x =>
        { x with
          sendOff := x.sendOff.map fun o =>
            { o with ticket := .awaited, ticketId := id, raiseOrdered := false }
          link := { x.link with nextTicket := id + 1 } }
      let s := s.queueMsg l (.ticket id v.number d s.now)
      (s, !(s.lane l).link.online)
    | none => (s, false)
  | none => (s, false)

/-- The messages of a send-off with a ticket: DIRECTION, then TICKET, composed now (R125, R144); none for a visit without a
direction (DESIGN CHOICE, notes/assumptions/59.md). -/
def State.queueTicket (s : State) (l : LaneId) : State × Bool :=
  match (s.lane l).visit.bind s.visit? with
  | some v =>
    match v.direction with
    | some d => (s.queueMsg l (.direction v.number d)).freshTicket l
    | none => (s, false)
  | none => (s, false)

/-- A send-off begins: DIRECTED, the destination's prompt, and its messages. The mark tells that the raise
is to be ordered at once: a BACK send-off, or a ticket lost to an OFFLINE link (R144). -/
def State.startSendOff (s : State) (l : LaneId) (d : Dest) (minute : Option Nat) : State × Bool :=
  let o : SendOff :=
    { dest := d, ticket := if d = .back then .none else .awaited, raiseOrdered := false, minute
      ticketId := 0 }
  let s := s.modLane l fun x => { x with state := .directed, sendOff := some o }
  let s := s.queueMsg l (.prompt o.prompt)
  if d = .back then (s, true) else s.queueTicket l

/-- The ticket of the present send-off has ended and its raise is ordered (R98). The mark tells that the
arm already reads up, so that the raise is complete. -/
def State.startRaise (s : State) (l : LaneId) : State × Bool :=
  let s := s.modLane l fun x =>
    { x with
      boomCount := 0, output := .asserted
      sendOff := x.sendOff.map fun o =>
        { o with raiseOrdered := true, ticket := if o.ticket = .none then .none else .ended } }
  let x := s.lane l
  if x.armUp then (s.stopTimer l .raise, true) else (s.startTimer l .raise x.cfg.raiseLimit, false)

/-- The admission held for a visit becomes its place at the tail of the queue (R192). -/
def TroubleDesk.enqueue (d : TroubleDesk) (n : Nat) : TroubleDesk :=
  { d with
    admissions := d.admissions.filter fun a => decide (a.visit ≠ n)
    queue := if d.admissions.any fun a => decide (a.visit = n) then d.queue ++ [n] else d.queue }

/-- A visit becomes QUEUED (R192). One that comes without a hold takes CLERK with source SYSTEM, so that every
queued visit has one (R77, R189; DEDUCED, notes/assumptions/12.md; safe). -/
def State.queueVisit (s : State) (n : Nat) : State :=
  let s := { s with td := s.td.enqueue n }
  let s := s.writeVisit n .stage fun v => { v with stage := .queued, lane := none }
  match s.visit? n with
  | some v => if v.holds.isEmpty then (s.placeHold n .clerk .system).1 else s
  | none => s

/-- A TROUBLE send-off's raise completes: the visit is QUEUED and the lane enters RELEASING. -/
def State.completeTrouble (s : State) (l : LaneId) : State :=
  match (s.lane l).visit with
  | none => s
  | some n => (if (s.writable? n).isSome then s.queueVisit n else s).enterReleasing l

/-- The Check Unit writes a visit's seal records and stray list: changed, it is marked (R155). -/
def State.writeSeals (s : State) (n : Nat) (c : Cause) (v : Visit) : State :=
  s.writeVisit n c fun w => { w with moves := v.moves, stray := v.stray }

/-- Sealed drops still NOT_OPENED close at the beginning of a TROUBLE send-off, and SEAL is placed for a
wrong verdict (R162). -/
def State.closeUnopened (s : State) (n : Nat) : State :=
  match s.writable? n with
  | some v =>
    if v.anyDrop .notOpened then
      let v' := v.closeDrops .notOpened
      let s := s.writeSeals n .checks v'
      if v'.anyWrong then (s.placeHold n .badSeal .lane).1 else s
    else s
  | none => s

/-- A TROUBLE send-off begins: the lane writes the TROUBLE pseudo-stop, NOT_OPENED drops close, and the
messages are queued; on an OFFLINE link the raise follows at once (R144, R150, R162). -/
def State.beginTrouble (s : State) (l : LaneId) : State :=
  match (s.lane l).visit with
  | none => s
  | some n =>
    let s := s.modLane l fun x => { x with trouble := .admitted, keptGrant := false }
    let s := s.closeUnopened n
    let s := s.writeVisit n .direction fun v => { v with direction := some .trouble }
    let (s, now) := s.startSendOff l .trouble none
    if now then
      let (s, up) := s.startRaise l
      if up then s.completeTrouble l else s
    else s

/-! ### The places of the Trouble Desk Unit (R190, R191) -/

/-- A lane's answer is kept by a stopped lane (R152). -/
def State.keepAnswer (s : State) (l : LaneId) (a : KeptAnswer) : State :=
  s.modLane l fun x => { x with keptAnswers := x.keptAnswers ++ [a] }

/-- A HELD lane takes the grant of a place: kept while a DIRECTION request is in flight, a TROUBLE send-off
otherwise (R149). A grant given back before a stopped lane takes it is gone (R191). -/
def State.takeGrant (s : State) (l : LaneId) : State :=
  let x := s.lane l
  if x.state = .held ∧ x.trouble = .admitted then
    if x.request = .direction then s.modLane l fun x => { x with keptGrant := true }
    else s.beginTrouble l
  else s

/-- A lane is given an admission for its visit (R190, R191). -/
def State.addAdmission (s : State) (l : LaneId) (n : Nat) : State :=
  let a : Admission := { lane := l, visit := n }
  { s with td := { s.td with admissions := s.td.admissions ++ [a] } }

/-- A stopped lane waits in HELD, under the stop, for a direction it has asked for. -/
def Lane.stoppedAsking (x : Lane) : Bool :=
  x.isStopped && decide (x.request = .direction) && x.remembered.any fun r => decide (r.state = .held)

/-- The lane at the head of the list is handed its grant. A stopped lane keeps it for its resumption (R152); one that asks
for a direction keeps it besides until that answer has been acted on, to be given back or taken by it (R149, R191). -/
def State.handGrant (s : State) (l : LaneId) : State :=
  let x := s.lane l
  if x.stoppedAsking then s.modLane l fun x => { x with keptGrant := true }
  else if x.isStopped then s.keepAnswer l .placeGrant
  else s.takeGrant l

/-- A free place is granted to the lane at the head of the blocked-lane list (R191). -/
def State.grantPlace (s : State) : State :=
  match s.td.blocked with
  | [] => s
  | l :: rest =>
    if s.placeCount ≥ Config.troublePlaces then s
    else
      match (s.lane l).visit with
      | none => s
      | some n =>
        let s := ({ s with td := { s.td with blocked := rest } }).addAdmission l n
        let s := s.flagTroubleFull
        (s.modLane l fun x => { x with trouble := .admitted }).handGrant l

/-- The admission held for a visit is given up, and its place is free (R191). -/
def State.giveUpAdmission (s : State) (n : Nat) : State :=
  if s.td.admissions.any fun a => decide (a.visit = n) then
    State.grantPlace { s with
      td := { s.td with admissions := s.td.admissions.filter fun a => decide (a.visit ≠ n) } }
  else s

/-- A lane gives up its blocked place (R190). -/
def State.giveUpBlocked (s : State) (l : LaneId) : State :=
  let s := { s with td := { s.td with blocked := s.td.blocked.filter fun k => decide (k ≠ l) } }
  s.modLane l fun x => if x.trouble = .blocked then { x with trouble := .none } else x

/-- A held lane offers its visit to the Trouble Desk Unit (R190), or keeps the offer while a request is in
flight (R149). -/
def State.offerTrouble (s : State) (l : LaneId) : State :=
  let x := s.lane l
  if x.request ≠ .none then
    s.modLane l fun x =>
      if KeptEvent.offer ∈ x.keptEvents then x
      else { x with keptEvents := x.keptEvents ++ [.offer] }
  else if x.trouble ≠ .none then s
  else
    match x.visit with
    | none => s
    | some n =>
      if s.placeCount ≥ Config.troublePlaces then
        let s := { s with td := { s.td with blocked := s.td.blocked ++ [l] } }
        s.modLane l fun x => { x with trouble := .blocked }
      else
        (s.addAdmission l n).flagTroubleFull.beginTrouble l

/-! ### What a lane does when told of its hold list -/

/-- A YARD send-off whose raise has not completed returns to HELD (R145): its raise is taken back, and RESET_KIOSK and
PROMPT WAIT are queued. -/
def State.returnToHeld (s : State) (l : LaneId) : State := ((s.cancelRaise l).queueMsg l .resetKiosk).enterHeld l

/-- The hold list of a lane's visit gained a hold (R145, R149): a YARD send-off whose raise has not completed
returns to HELD; elsewhere the lane takes no action. -/
def State.laneHoldGained (s : State) (l : LaneId) : State :=
  let x := s.lane l
  match x.state, x.sendOff with
  | .directed, some o =>
    if o.dest = .yard then s.returnToHeld l else s
  | _, _ => s

/-- The hold list of a lane's visit became empty (R145, R149): a HELD lane asks for a direction, or keeps the
event while a request is in flight; a TROUBLE send-off gives its admission up and asks from HELD. -/
def State.laneHoldEmptied (s : State) (l : LaneId) : State :=
  let x := s.lane l
  match x.state, x.sendOff with
  | .held, _ =>
    s.modLane l fun x =>
      if x.request = .none then { x with request := .direction }
      else if KeptEvent.emptied ∈ x.keptEvents then x
      else { x with keptEvents := x.keptEvents ++ [.emptied] }
  | .directed, some o =>
    if o.dest = .trouble then
      match x.visit with
      | none => s
      | some n =>
        let s := (s.modLane l fun x => { x with trouble := .none }).giveUpAdmission n
        let s := (s.cancelRaise l).queueMsg l .resetKiosk
        let s := s.writeVisit n .direction fun v => { v with direction := none }
        let s := s.enterHeld l
        s.modLane l fun x => { x with request := .direction }
    else s
  | _, _ => s

/-- The ready mark of the desk serving a visit is set anew (R194). -/
def State.refreshReady (s : State) (d : DeskId) : State :=
  match s.td.desks[d] with
  | .serving n t _ =>
    match s.visit? n with
    | some v => s.setDesk d (.serving n t (v.holds.isEmpty && v.complete))
    | none => s
  | .free => s

/-- After a change to a hold list the Visit Table tells the block that holds the visit's place (R77). A lane
in FAULT STOPPED looks at the list at its resumption (R152). -/
def State.tellHolds (s : State) (n : Nat) (gained : Bool) : State :=
  match s.writable? n with
  | none => s
  | some v =>
    match v.stage, v.lane, v.desk with
    | .atLane, some l, _ =>
      if (s.lane l).visit ≠ some n ∨ (s.lane l).isStopped then s
      else if v.holds.isEmpty then s.laneHoldEmptied l
      else if gained then s.laneHoldGained l
      else s
    | .atDesk, _, some d => s.refreshReady d
    | _, _, _ => s

/-- A placement with the notice of R77. -/
def State.placeTold (s : State) (n : Nat) (r : HoldReason) (src : HoldSource) : State × HoldAnswer :=
  let (s, a) := s.placeHold n r src
  match a with
  | .placed => (s.tellHolds n true, a)
  | .displaced => (s.tellHolds n true, a)
  | _ => (s, a)

/-- A release with the notice of R77; the mark tells whether CLERK was substituted. A reason the visit does
not hold changes nothing (R76). -/
def State.releaseTold (s : State) (n : Nat) (r : HoldReason) : State × Bool :=
  match s.writable? n with
  | none => (s, false)
  | some v =>
    if v.holdsReason r then
      let (s, subst) := s.dropHold n r
      (s.tellHolds n false, subst)
    else (s, false)

end Sys2Proof.Machine
end

