-- ==== Sys2Proof/Machine/Yard.lean ====
section
/-! DEFINITION. The Yard Director's operations (chapter 9): needed kind, choice of block, assignment, the
wait list and its retry, and the steps of an ending sequence (R72): moves, place, close. -/

namespace Sys2Proof.Machine

/-! ### Choice (R174, R175) -/

/-- The booking with a ref. -/
def State.booking? (s : State) (ref : Text) : Option Booking :=
  s.be.book.find? fun b => decide (b.ref = ref)

/-- The kind of block a move needs, the first row of R174 that fits. -/
def neededKind (tInspect : Nat) (special : Special) (m : MoveEntry) : BlockKind :=
  let damaged := match m.damage with
    | some d => decide (d.index ≥ tInspect)
    | none => false
  match m.kind with
  | .exportDrop =>
    if damaged then .inspection
    else
      match special with
      | .hazard => .hazard
      | .reeferHazard => .hazard
      | .reefer => .reefer
      | .plain => .stackExport
  | .emptyReturn => if damaged then .inspection else .stackEmpty
  | .importPick => .deliveryImport
  | .emptyPick => .emptyIssue

/-- A block may be chosen for a move that needs a kind (R172). -/
def Block.takes (b : Block) (k : BlockKind) : Bool :=
  b.opened && decide (b.kind = k) && decide (b.credit > 0)

/-- The better of a block found so far and the next one in number order: greater credit wins, and the lower
number among equals (R175). -/
def betterBlock (blocks : Vector Block 32) (k : BlockKind) (best : Option BlockId) (i : BlockId) :
    Option BlockId :=
  if blocks[i].takes k then
    match best with
    | some j => if blocks[i].credit > blocks[j].credit then some i else some j
    | none => some i
  else best

/-- The block chosen for one move (R175). -/
def chooseBlock (blocks : Vector Block 32) (k : BlockKind) (preferred : Option Nat) :
    Option BlockId :=
  let first := (preferred.bind blockOf).bind fun i => if blocks[i].takes k then some i else none
  match first with
  | some i => some i
  | none => allBlocks.foldl (betterBlock blocks k) none

/-- A move is directed to a block: the credit falls and in_transit rises (R173). -/
def Block.take (b : Block) : Block := { b with credit := b.credit - 1, inTransit := b.inTransit + 1 }

/-- A move is taken off a block and its credit returned (R173). -/
def Block.giveBack (b : Block) : Block :=
  { b with credit := min Config.maxCredit (b.credit + 1), inTransit := b.inTransit - 1 }

/-- A move leaves a block with its credit spent (R173). -/
def Block.settle (b : Block) : Block := { b with inTransit := b.inTransit - 1 }

/-- Changes a block of a table. -/
def modBlock (blocks : Vector Block 32) (i : BlockId) (f : Block → Block) : Vector Block 32 :=
  blocks.set i (f blocks[i])

/-! ### Assignment (R177 to R180) -/

/-- The booking fields the Yard Director reads for a move: special and preferred block (R174). -/
def State.moveBooking (s : State) (m : MoveEntry) : Special × Option Nat :=
  match s.booking? m.owner with
  | some b => (b.special, b.preferred)
  | none => (.plain, none)

/-- A trial assignment: the PENDING moves at the positions given, one after the other, each seeing the
credits the ones before it left; or the first move that found no block and the kind it needed. -/
def State.assignMoves (s : State) :
    List Nat → Vector Block 32 → List MoveEntry →
      Except (Nat × BlockKind) (Vector Block 32 × List MoveEntry)
  | [], blocks, ms => .ok (blocks, ms)
  | i :: rest, blocks, ms =>
    match ms[i]? with
    | none => s.assignMoves rest blocks ms
    | some m =>
      if m.state = .pending then
        let (special, preferred) := s.moveBooking m
        let k := neededKind s.cfg.tInspect special m
        match chooseBlock blocks k preferred with
        | none => .error (i, k)
        | some b =>
          s.assignMoves rest (modBlock blocks b (·.take))
            (ms.set i { m with state := .directed, block := some b })
      else s.assignMoves rest blocks ms

/-- A trial assignment of a visit's PENDING moves in direction order. -/
def State.tryAssign (s : State) (v : Visit) :
    Except (Nat × BlockKind) (Vector Block 32 × List MoveEntry) :=
  s.assignMoves (directionOrder v.moves) s.yd.blocks v.moves

/-- A move is added to the stop of its block, or opens a stop (R179). -/
def addToStops (blocks : Vector Block 32) (b : BlockId) (m : MoveEntry) : List Stop → List Stop
  | [] =>
    [{ block := b, label := blocks[b].label, route := blocks[b].route, moves := [(m.kind, m.container)] }]
  | p :: rest =>
    if p.block = b then { p with moves := p.moves ++ [(m.kind, m.container)] } :: rest
    else p :: addToStops blocks b m rest

/-- The stop direction of a list of DIRECTED moves (R179). -/
def composeStops (blocks : Vector Block 32) (ms : List MoveEntry) : List Stop :=
  (directionOrder ms).foldl
    (fun acc i =>
      match ms[i]? with
      | some m =>
        match m.block with
        | some b => addToStops blocks b m acc
        | none => acc
      | none => acc)
    []

/-- The lane is in DIRECTED on a TROUBLE send-off; a stopped lane stands by the state it remembers (R102, R152;
DEDUCED, notes/assumptions/43.md). -/
def Lane.onTrouble (x : Lane) : Bool :=
  (decide (x.state = .directed)
      || (x.isStopped && x.remembered.any fun r => decide (r.state = .directed)))
    && x.sendOff.any fun o => decide (o.dest = .trouble)

/-- The visit is at a lane in DIRECTED whose send-off is TROUBLE: its pseudo-stop is kept (R179). In FAULT BOOM_JAM
the new direction is written (R153, R168). -/
def State.onTroubleSendOff (s : State) (v : Visit) : Bool :=
  decide (v.stage = .atLane) && v.lane.any fun l => (s.lane l).onTrouble

/-- The stages in which a visit may be assigned (R177). -/
def Visit.assignable (v : Visit) : Bool :=
  match v.stage with
  | .atLane => true
  | .queued => true
  | .atDesk => true
  | _ => false

/-- A visit leaves the yard wait list. -/
def State.leaveWaitList (s : State) (n : Nat) : State :=
  { s with yd := { s.yd with waitList := s.yd.waitList.filter fun e => decide (e.visit ≠ n) } }

/-- A successful assignment is written (R177): credits, moves and direction, NO_YARD released, the wait
list left, and the visit marked. -/
def State.assignDone (s : State) (v : Visit) (blocks : Vector Block 32) (ms : List MoveEntry)
    (c : Cause) : State :=
  let d := if s.onTroubleSendOff v then v.direction else some (.stops (composeStops blocks ms))
  let s := { s with yd := { s.yd with blocks := blocks } }
  let s := s.writeVisit v.number c fun w => { w with moves := ms, direction := d }
  let s := s.leaveWaitList v.number
  if v.holdsReason .noYard then (s.releaseTold v.number .noYard).1 else s

/-- How a failed assignment left the yard wait list (R178). -/
inductive ListMark | onList | offList | holdRefused
  deriving DecidableEq, Repr

/-- The Yard Director's answer to an assignment (R177, R178, R180). -/
inductive AssignResult
  | assigned
  | noYard (move : Nat) (kind : BlockKind) (mark : ListMark)
  | noMoves
  | wrongState
  deriving DecidableEq, Repr

/-- The lane's part of an answer. -/
def AssignResult.toLane : AssignResult → DirectionAnswer
  | .assigned => .assigned
  | .noYard .. => .noYard
  | .noMoves => .noMoves
  | .wrongState => .wrongState

/-- A visit joins the wait list, or keeps its place with its kind rewritten (R181). -/
def joinWaitList (n : Nat) (k : BlockKind) (l : List WaitEntry) : List WaitEntry × ListMark :=
  if l.any fun e => decide (e.visit = n) then
    (l.map fun e => if e.visit = n then { e with kind := k } else e, .onList)
  else if l.length < Config.waitListSize then (l ++ [{ visit := n, kind := k }], .onList)
  else (l, .offList)

/-- A failed assignment (R178): the stop direction is cleared, NO_YARD is placed with source SYSTEM, and the
visit joins the wait list unless the placement was refused. -/
def State.assignFailed (s : State) (v : Visit) (i : Nat) (k : BlockKind) : State × AssignResult :=
  let s := match v.direction with
    | some (.stops _) => s.writeVisit v.number .direction fun w => { w with direction := none }
    | _ => s
  let (s, a) := s.placeTold v.number .noYard .system
  match a with
  | .full => (s, .noYard i k .holdRefused)
  | .wrongState => (s, .wrongState)
  | _ =>
    let (l, mark) := joinWaitList v.number k s.yd.waitList
    ({ s with yd := { s.yd with waitList := l } }, .noYard i k mark)

/-- An assignment for a visit (R177, R178, R180). -/
def State.assign (s : State) (n : Nat) (c : Cause) : State × AssignResult :=
  match s.writable? n with
  | none => (s, .wrongState)
  | some v =>
    if !v.assignable then (s, .wrongState)
    else if v.moves.isEmpty then ((s.placeTold n .clerk .system).1, .noMoves)
    else
      match s.tryAssign v with
      | .ok (blocks, ms) => (s.assignDone v blocks ms c, .assigned)
      | .error (i, k) => s.assignFailed v i k

/-! ### The retry of the wait list (R182) -/

/-- One visit of the walk: assigned if it can be, and otherwise left as it is but for its entry's kind. A lane told that its
hold list emptied acts on it before the next visit of the walk is tried (DESIGN CHOICE, notes/assumptions/74.md). -/
def State.retryOne (s : State) (n : Nat) : State :=
  if !(s.yd.waitList.any fun e => decide (e.visit = n)) then s
  else
    match s.writable? n with
    | none => s
    | some v =>
      if !v.assignable then s
      else
        match s.tryAssign v with
        | .ok (blocks, ms) => s.assignDone v blocks ms .direction
        | .error (_, k) =>
          { s with yd := { s.yd with waitList := (joinWaitList n k s.yd.waitList).1 } }

/-- The wait list is walked from the head, each visit tried once. -/
def State.retryWalk (s : State) : State :=
  (s.yd.waitList.map (·.visit)).foldl State.retryOne s

/-! ### The ending sequence (R72) -/

/-- The direction of a visit some of whose moves have left DIRECTED: before the release point a stop direction is cleared,
and a pseudo-stop stands (R179). -/
def Visit.directionLeft (v : Visit) : Option Direction :=
  match v.direction with
  | some (.stops _) => if v.stage = .released then v.direction else none
  | d => d

/-- Step 1: each DIRECTED move becomes CANCELLED as its block's in_transit falls, the credit returned or not, and a stop
direction goes with the moves it named before the release point (R179); the visit leaves the wait list, and a credit
returned to an open block starts a retry (R173, R182). -/
def State.endMoves (s : State) (n : Nat) (returnCredit : Bool) : State :=
  match s.visit? n with
  | none => s
  | some v =>
    let named := v.moves.filterMap fun m => if m.state = .directed then m.block else none
    let f := if returnCredit then Block.giveBack else Block.settle
    let blocks := named.foldl (fun acc b => modBlock acc b f) s.yd.blocks
    let s := { s with yd := { s.yd with blocks := blocks } }
    let s := s.modVisit n fun v => { v with
      moves := v.moves.map fun m =>
        if m.state = .directed then { m with state := .cancelled, block := none } else m
      direction := if named.isEmpty then v.direction else v.directionLeft }
    let s := if named.isEmpty then s else s.mark n .direction
    let s := s.leaveWaitList n
    if returnCredit && named.any (fun b => blocks[b].opened) then s.retryWalk else s

/-- A visit begins to end: from here writes and placements are refused, and its moves are settled. -/
def State.beginEnding (s : State) (n : Nat) (k : EndKind) : State :=
  (s.modVisit n fun v => { v with ending := some k }).endMoves n (decide (k ≠ .close))

/-- Step 3: the visit leaves the place its stage gives it; what its lane held for it is given up, a desk
becomes FREE and its place is granted (R72, R191). -/
def State.endPlace (s : State) (n : Nat) : State :=
  match s.visit? n with
  | none => s
  | some v =>
    match v.stage, v.lane, v.desk with
    | .atLane, some l, _ =>
      if (s.lane l).visit = some n then
        let s := s.giveUpBlocked l
        (s.modLane l fun x => { x with visit := none }).giveUpAdmission n
      else s.giveUpAdmission n
    | .atDesk, _, some d => (s.setDesk d .free).grantPlace
    | .staged, _, _ =>
      { s with vt := { s.vt with stagedIn := s.vt.stagedIn.filter fun m => decide (m ≠ n) } }
    | _, _, _ => s

/-- Step 4: the record is discarded and the visit is CLOSED with cause CLOSED. -/
def State.closeVisit (s : State) (n : Nat) : State :=
  (s.modVisit n fun v => closedVisit n v.causes).mark n .closed

/-- Steps 3 and 4 of the ending sequence. -/
def State.finishEnding (s : State) (n : Nat) : State := (s.endPlace n).closeVisit n

end Sys2Proof.Machine
end

