-- ==== Sys2Proof/Machine/SendOff.lean ====
section
/-! DEFINITION. The send-off of a lane (7.6, 7.7): the raise and its completion by destination, the release
write (R70), ticket reports (R123, R144), the direction replaced (R145), and the redirect (R185). -/

namespace Sys2Proof.Machine

/-! ### The release write (R70) -/

/-- The condition that refuses a release. -/
inductive ReleaseRefusal | holds | noBooking | moves
  deriving DecidableEq, Repr

/-- The first condition of R70 that refuses the release of a visit. -/
def Visit.releaseRefusal (v : Visit) : Option ReleaseRefusal :=
  if !v.holds.isEmpty then some .holds
  else if v.claimed.isEmpty then some .noBooking
  else if !v.allDirected then some .moves
  else none

/-- The write that enters RELEASED: the release minute is stamped, lane and desk are cleared (R69, R70). -/
def State.writeReleased (s : State) (n : Nat) : State :=
  s.writeVisit n .stage fun v =>
    { v with stage := .released, lane := none, desk := none, release := some s.now }

/-- A visit is marked ELIGIBLE, with cause STAGE; a mark already set stays (R81). -/
def State.markEligible (s : State) (n : Nat) : State :=
  match s.visit? n with
  | some v =>
    match v.staging with
    | some g =>
      if g.eligible then s
      else s.writeVisit n .stage fun v => { v with staging := some { g with eligible := true } }
    | none => s
  | none => s

/-- At UP on a STAGING send-off the reservation becomes an entry; due already, the visit is ELIGIBLE at
once (R80). -/
def State.enterStaging (s : State) (n : Nat) : State :=
  let s := { s with vt := { s.vt with stagedIn := s.vt.stagedIn ++ [n] } }
  let s := s.writeVisit n .stage fun v => { v with stage := .staged, lane := none }
  if s.eligibleMinute n ≤ s.now then s.markEligible n else s

/-- A lane owes a Book Engine request for a visit (R23). -/
def State.owe (s : State) (l : LaneId) (o : Owed) : State :=
  s.modLane l fun x => { x with owed := x.owed ++ [o] }

/-! ### The raise and its completion -/

/-- The visit of a completed BACK send-off is turned back: recorded already as the last released, it stays bound to its
lane until step 3 of the ending sequence, whose bookings step the lane owes (R146, R72; notes/assumptions/13.md). -/
def State.turnBack (s : State) (l : LaneId) (n : Nat) : State :=
  let s := s.modLane l fun x => { x with visit := some n }
  (s.owe l (.ending n .turnBack)).beginEnding n .turnBack

/-- The raise of a lane's send-off completes (R146). -/
def State.completeRaise (s : State) (l : LaneId) : State :=
  let x := s.lane l
  match x.sendOff with
  | none => s
  | some o =>
    match o.dest, x.visit.bind s.writable? with
    | .yard, some v =>
      match v.releaseRefusal with
      | some _ => (((s.orderWithdrawal l).queueMsg l .resetKiosk).enterHeld l)
      | none => ((s.writeReleased v.number).owe l (.admission v.number)).enterReleasing l
    | .staging, some v => (s.enterStaging v.number).enterReleasing l
    | .trouble, _ => s.completeTrouble l
    | .back, some v => (s.enterReleasing l).turnBack l v.number
    | _, _ => s.enterReleasing l

/-- A raise is ordered (R98): complete at once if the arm reads up. -/
def State.orderRaise (s : State) (l : LaneId) : State :=
  let (s, up) := s.startRaise l
  if up then s.completeRaise l else s

/-- A send-off begins (R144); a TROUBLE send-off by `beginTrouble`. -/
def State.beginSendOff (s : State) (l : LaneId) (d : Dest) (minute : Option Nat) : State :=
  match d with
  | .trouble => s.beginTrouble l
  | _ =>
    let (s, now) := s.startSendOff l d minute
    if now then s.orderRaise l else s

/-- A ticket report reaches the lane machine (R144): only the ticket of the present send-off counts. SENT and
DROPPED_OFFLINE order the raise, CLEARED queues a fresh ticket, REPLACED waits. -/
def State.takeTicketReport (s : State) (l : LaneId) (r : TicketReport) : State :=
  let x := s.lane l
  match x.state, x.sendOff with
  | .directed, some o =>
    if o.ticket = .awaited ∧ o.ticketId = r.id then
      match r.outcome with
      | .sent => s.orderRaise l
      | .droppedOffline => s.orderRaise l
      | .cleared =>
        let (s, now) := s.freshTicket l
        if now then s.orderRaise l else s
      | .replaced => s
    else s
  | _, _ => s

/-- A ticket report is made to a lane: noted, and kept by a stopped lane (R123, R152). -/
def State.reportTicket (s : State) (l : LaneId) (r : TicketReport) : State :=
  let s := s.modLink l fun k => { k with lastReport := some r }
  if (s.lane l).isStopped then s.keepAnswer l (.ticket r) else s.takeTicketReport l r

/-- Several reports, in the order their tickets ended. -/
def State.reportTickets (s : State) (l : LaneId) (rs : List TicketReport) : State :=
  rs.foldl (fun s r => s.reportTicket l r) s

/-- A lane on a YARD send-off takes a replaced direction: its raise is taken back and the new DIRECTION and
TICKET are queued (R145). -/
def State.takeRedirected (s : State) (l : LaneId) : State :=
  let x := s.lane l
  match x.state, x.sendOff with
  | .directed, some o =>
    if o.dest = .yard then
      let (s, now) := (s.cancelRaise l).queueTicket l
      if now then s.orderRaise l else s
    else s
  | _, _ => s

/-! ### The redirect (R185) -/

/-- The block that binds a redirected visit's place is told that its direction was replaced. -/
def State.tellRedirected (s : State) (n : Nat) : State :=
  match s.writable? n with
  | none => s
  | some v =>
    match v.stage, v.lane, v.desk with
    | .atLane, some l, _ =>
      if (s.lane l).visit ≠ some n then s
      else if (s.lane l).isStopped then s.keepAnswer l .redirected
      else s.takeRedirected l
    | .atDesk, _, some d => s.refreshReady d
    | _, _, _ => s

/-- How a redirect ended. -/
inductive RedirectResult | noEffect | redirected | noYard
  deriving DecidableEq, Repr

/-- The named moves are taken off their blocks and assigned again (R185). -/
def State.redirect (s : State) (n : Nat) (named : List Nat) : State × RedirectResult :=
  match s.writable? n with
  | none => (s, .noEffect)
  | some v =>
    let idx := named.filter fun i => (v.moves[i]?).any fun m => decide (m.state = .directed)
    if v.stage = .released ∨ idx.isEmpty then (s, .noEffect)
    else
      let off := idx.filterMap fun i => v.moves[i]?.bind (·.block)
      let blocks := off.foldl (fun acc b => modBlock acc b (·.giveBack)) s.yd.blocks
      let f := fun m : MoveEntry => { m with state := .pending, block := none }
      let s := { s with yd := { s.yd with blocks := blocks } }
      let s := s.modVisit n fun v => { v with moves := idx.foldl (fun ms i => ms.modify i f) v.moves }
      match s.assign n .redirected with
      | (s, .assigned) => (s.tellRedirected n, .redirected)
      | (s, .noYard ..) =>
        let s := s.mark n .direction
        let s := match (s.writable? n).bind (·.desk) with
          | some d => s.refreshReady d
          | none => s
        (s, .noYard)
      | (s, _) => (s, .noEffect)

end Sys2Proof.Machine
end

