-- ==== Sys2Proof/Machine/Checks.lean ====
section
/-! DEFINITION. The Check Unit's operations (chapter 8): the seal and damage windows of a lane's visit, what
follows from a read or a finding, the report that the checks are final (R170), and the present prompt of a
lane (R129), which the closing of a drop queues again. -/

namespace Sys2Proof.Machine

/-! ### The present prompt (R129) -/

/-- A prompt that carries no minute. -/
def plainPrompt (c : PromptCode) : OutMsg := .prompt { code := c, minute := none }

/-- The present prompt of a lane's state. -/
def Lane.presentMsg (x : Lane) : OutMsg :=
  match x.state with
  | .closed => plainPrompt .laneClosed
  | .parked => .resetKiosk
  | .idle => .resetKiosk
  | .approach => .resetKiosk
  | .identify =>
    if x.visit.isNone then plainPrompt .wait
    else
      match x.promptMode with
      | .identify => plainPrompt .identify
      | .enterRef => plainPrompt .enterRef
  | .checking => plainPrompt (if x.timerOn .sealWindow then .enterSeals else .wait)
  | .held => plainPrompt .wait
  | .directed =>
    match x.sendOff with
    | some o => .prompt o.prompt
    | none => .resetKiosk
  | .releasing =>
    match x.endedPrompt with
    | some p => .prompt p
    | none => .resetKiosk
  | .fault c => if c = .boomJam ∧ x.visit.isSome then plainPrompt .wait else .resetKiosk

/-- The lane queues its present prompt. -/
def State.queuePresent (s : State) (l : LaneId) : State := s.queueMsg l (s.lane l).presentMsg

/-! ### Checks final (R143, R170) -/

/-- A lane in CHECKING takes the report that the checks are final: HELD with a hold, a direction request
without one (R143). -/
def State.takeChecksFinal (s : State) (l : LaneId) : State :=
  let x := s.lane l
  if x.state = .checking then
    match x.visit.bind s.visit? with
    | some v =>
      if v.holds.isEmpty then s.modLane l fun x => { x with request := .direction }
      else s.enterHeld l
    | none => s
  else s

/-- The report is made once per binding, at the event that completes its conditions (R170). -/
def State.checkFinal (s : State) (l : LaneId) : State :=
  let x := s.lane l
  match x.visit.bind s.visit? with
  | some v =>
    if x.identTold && !x.finalTold && v.sealsFinal && !x.timerOn .damageWindow then
      let s := s.modLane l fun x => { x with finalTold := true }
      if x.isStopped then s.keepAnswer l .checksFinal else s.takeChecksFinal l
    else s
  | none => s

/-! ### Seals -/

/-- What a change of reads or verdicts did to hold SEAL (R163). -/
inductive SealEffect | left | placed | released
  deriving DecidableEq, Repr

/-- SEAL is placed or released after a close or a recomputation (R159). A release follows a first verdict of MATCH at a close
as it does one at a recomputation (DESIGN CHOICE, notes/assumptions/17.md), and a placement that finds SEAL in the list is
answered as placed (DESIGN CHOICE, notes/assumptions/60.md). -/
def State.sealHolds (s : State) (n : Nat) (before after : Visit) (strayed : Bool) :
    State × SealEffect :=
  if after.stage = .released then (s, .left)
  else if after.anyWrong || strayed then
    match s.placeTold n .badSeal .lane with
    | (s, .full) => (s, .left)
    | (s, .wrongState) => (s, .left)
    | (s, _) => (s, .placed)
  else if becameMatch before after && after.stray.isEmpty
      && after.holds.any (fun h => decide (h.reason = .badSeal ∧ h.source = .lane)) then
    ((s.releaseTold n .badSeal).1, .released)
  else (s, .left)

/-- The lane that binds a visit at its pedestal. -/
def State.bindingLane (s : State) (n : Nat) : Option LaneId :=
  match s.live? n with
  | some v =>
    match v.stage, v.lane with
    | .atLane, some l => if (s.lane l).visit = some n then some l else none
    | _, _ => none
  | none => none

/-- The lane is told that a drop closed: in CHECKING it queues its present prompt (R156), and the checks may
be final. Drops that close at one moment tell it once (DESIGN CHOICE, notes/assumptions/68.md). -/
def State.tellClosed (s : State) (l : LaneId) : State :=
  let s := if (s.lane l).state = .checking then s.queuePresent l else s
  s.checkFinal l

/-- The event that changed a visit's reads: a read taken, as a stray or not, or a number struck out. -/
inductive ReadChange | taken (stray : Bool) | struck
  deriving DecidableEq, Repr

/-- The window closes early after a change of reads (R158); a number struck out lets it close only where that emptied
the stray list (R163). -/
def ReadChange.closes (c : ReadChange) (before judged : Visit) : Bool :=
  judged.mayCloseEarly && match c with
    | .taken _ => true
    | .struck => !before.stray.isEmpty

/-- A visit's reads have changed: verdicts are computed again, the window may close early, the record is
written, and SEAL and the lane follow (R158 to R161). -/
def State.settleSeals (s : State) (n : Nat) (before changed : Visit) (c : ReadChange) :
    State × SealEffect :=
  let strayed := decide (c = .taken true)
  let judged := changed.rejudge
  let early := c.closes before judged && (s.bindingLane n).isSome
  let after := if early then judged.closeDrops .opened else judged
  let released := decide (before.stage = .released)
  let s := s.writeSeals n (if released then .sealAfterRelease else .checks) after
  match early, s.bindingLane n with
  | true, some l =>
    let (s, e) := (s.stopTimer l .sealWindow).sealHolds n before after strayed
    (s.tellClosed l, e)
  | _, _ => s.sealHolds n before after strayed

/-- A read is taken for a visit (R157); a repeat and a discarded read change nothing. -/
def State.takeSealRead (s : State) (n : Nat) (t : Text) (src : ReadSource) (slot : Option Nat) :
    State × ReadFate × SealEffect :=
  match s.writable? n with
  | none => (s, .discarded, .left)
  | some v =>
    let (v', fate) := v.takeRead t src slot
    match fate with
    | .again => (s, fate, .left)
    | .discarded => (s, fate, .left)
    | _ =>
      let (s, e) := s.settleSeals n v v' (.taken (decide (fate = .stray)))
      (s, fate, e)

/-- Identification is done: NOT_OPENED drops open and SEAL_WINDOW starts (R156). -/
def State.openSealWindow (s : State) (l : LaneId) : State :=
  let s := s.modLane l fun x => { x with identTold := true }
  match (s.lane l).visit.bind s.writable? with
  | some v =>
    if v.anyDrop .notOpened then
      (s.writeSeals v.number .checks v.openDrops).startTimer l .sealWindow s.cfg.sealWindow
    else s
  | none => s

/-- SEAL_WINDOW expires: every drop still OPEN closes with its verdict (R156, R158), and SEAL is placed or released
(notes/assumptions/17.md). -/
def State.closeSealWindow (s : State) (l : LaneId) : State :=
  match (s.lane l).visit.bind s.writable? with
  | some v =>
    if v.anyDrop .opened then
      let after := v.closeDrops .opened
      let s := s.writeSeals v.number .checks after
      let (s, _) := s.sealHolds v.number v after false
      s.tellClosed l
    else s
  | none => s

/-! ### Damage -/

/-- The damage window starts; with setting 0 it closes at its start (R166). -/
def State.startDamageWindow (s : State) (l : LaneId) : State :=
  if s.cfg.damageWindow = 0 then s.stopTimer l .damageWindow
  else s.startTimer l .damageWindow s.cfg.damageWindow

/-- What a damage report did (R167). -/
structure DamageEffect where
  hold : Option HoldAnswer
  redirect : Option RedirectResult
  recorded : Bool
  deriving DecidableEq, Repr

/-- The damage record of a visit's move at a position is written. -/
def Visit.setDamage (v : Visit) (i : Nat) (d : DamageRecord) : Visit :=
  let f := fun m : MoveEntry => { m with damage := some d }
  { v with moves := v.moves.modify i f }

/-- A raised index acts by where the visit stands (R168): hold DAMAGE first, then the redirect of a drop
directed to a block whose kind is not INSPECTION. -/
def State.damageActs (s : State) (n i : Nat) (index : Nat) : State × DamageEffect :=
  match s.writable? n with
  | none => (s, { hold := none, redirect := none, recorded := false })
  | some v =>
    if v.stage = .released then (s, { hold := none, redirect := none, recorded := true })
    else
      let src := if v.stage = .atDesk then HoldSource.desk else .lane
      let (s, hold) :=
        if index ≥ s.cfg.tHold then
          let (s, a) := s.placeTold n .damage src
          (s, some a)
        else (s, none)
      let astray := (v.moves[i]?).any fun m =>
        decide (m.state = .directed) && match m.block with
          | some b => decide (s.yd.blocks[b].kind ≠ .inspection)
          | none => false
      if decide (index ≥ s.cfg.tInspect) && astray then
        let (s, r) := s.redirect n [i]
        (s, { hold, redirect := some r, recorded := false })
      else (s, { hold, redirect := none, recorded := false })

/-- Findings are taken on the drop at a position, and act once, on the index after the last (R164, R167,
R168). A report that leaves the record as it was marks the visit all the same (DESIGN CHOICE,
notes/assumptions/46.md). -/
def State.takeFindings (s : State) (v : Visit) (i : Nat) (d : DamageRecord) (fs : List Finding) :
    State × DamageRecord × DamageEffect :=
  let released := decide (v.stage = .released)
  let d' := d.takeAll s.cfg.weights released fs
  let s := s.writeVisit v.number (if released then .damageAfterRelease else .checks)
    fun w => w.setDamage i d'
  if d'.index > d.index then
    let (s, e) := s.damageActs v.number i d'.index
    (s, d', e)
  else (s, d', { hold := none, redirect := none, recorded := released })

end Sys2Proof.Machine
end

