-- ==== Sys2Proof/Machine/Charges.lean ====
section
/-! DEFINITION. Windows and charges (3.1 to 3.3, R18): phases and retirement minutes, the counts of a pool, the
tallies of R42, and a charge raised, lowered and moved. -/

namespace Sys2Proof.Machine

/-! ### Windows and their phases (R40) -/

/-- The end of a window, S + L. -/
def Window.finish (w : Window) : Nat := w.start + w.length

/-- The retirement minute of a window with the G in force. -/
def State.retireMinute (s : State) (w : Window) : Nat := w.finish + s.cfg.g

/-- The window has reached its retirement minute (R6). -/
def State.due (s : State) (w : Window) : Bool :=
  match s.tb.minute with
  | some n => decide (s.retireMinute w ≤ n)
  | none => false

/-- The phases of a window; NO_CLOCK in UNSET (R40). -/
inductive WinPhase | planned | running | grace | due | noClock
  deriving DecidableEq, Repr

/-- A window is in phase RUNNING at a minute. -/
def Window.runningAt (w : Window) (n : Nat) : Bool := decide (w.start ≤ n) && decide (n < w.finish)

/-- The phase of a window (R40). -/
def State.winPhase (s : State) (w : Window) : WinPhase :=
  match s.tb.minute with
  | none => .noClock
  | some n =>
    if n < w.start then .planned
    else if n < w.finish then .running
    else if n < s.retireMinute w then .grace
    else .due

/-- The running window, if there is one. -/
def State.runningWindow (s : State) : Option Window :=
  match s.tb.minute with
  | some n => s.be.ring.find? fun w => w.runningAt n
  | none => none

/-- The window in the ring with a start. -/
def State.windowOf (s : State) (tag : Nat) : Option Window :=
  s.be.ring.find? fun w => decide (w.start = tag)

/-- The Time Base holds a retirement request: the head is due in LOCKED or HOLDOVER (R6). -/
def State.retirementHeld (s : State) : Bool :=
  (decide (s.tb.clock = .locked) || decide (s.tb.clock = .holdover))
    && match s.be.ring with
      | w :: _ => s.due w
      | [] => false

/-- The windows due now, in ring order (R6). -/
def State.dueWindows (s : State) : List Window := s.be.ring.filter s.due

/-- The start of the last of some windows; none of no window. -/
def lastStart (ws : List Window) : Option Nat := (ws.map (·.start)).max?

/-- The count of windows waiting for retirement (R13). -/
def State.waitingRetirements (s : State) : Nat := s.be.ring.countP s.due

/-! ### Counts and tallies (R41, R42) -/

/-- A window's count in a pool. -/
def Window.count (w : Window) : Pool → Nat
  | .general => w.bookedG
  | .reserve => w.bookedR

/-- A window's capacity in a pool. -/
def Window.cap (w : Window) : Pool → Nat
  | .general => w.cg
  | .reserve => w.cr

/-- A pool with room for one more charge. -/
def Window.hasRoom (w : Window) (p : Pool) : Bool := decide (w.count p < w.cap p)

/-- A window's count in a pool rises by one. -/
def Window.charge (w : Window) : Pool → Window
  | .general => { w with bookedG := w.bookedG + 1 }
  | .reserve => { w with bookedR := w.bookedR + 1 }

/-- A window's count in a pool falls by one. -/
def Window.discharge (w : Window) : Pool → Window
  | .general => { w with bookedG := w.bookedG - 1 }
  | .reserve => { w with bookedR := w.bookedR - 1 }

/-- A tally rises by one, saturating. -/
def tallyUp (n : Nat) : Nat := min Config.maxTally (n + 1)

/-- The tallies a standing raises in the window it is placed in (R42). -/
def Window.tally (w : Window) (st : Standing) : Window :=
  match st with
  | .onTime => { w with arrived := tallyUp w.arrived }
  | .unjudged => { w with arrived := tallyUp w.arrived }
  | .lateGrace => { w with arrived := tallyUp w.arrived, late := tallyUp w.late }
  | .earlyPulled => { w with arrived := tallyUp w.arrived, pulledIn := tallyUp w.pulledIn }
  | .lateAbsorbed => { w with arrived := tallyUp w.arrived, absorbed := tallyUp w.absorbed }
  | _ => w

/-- Changes the window with a start, if it is in the ring. -/
def State.modWindow (s : State) (tag : Nat) (f : Window → Window) : State :=
  { s with be := { s.be with ring := s.be.ring.map fun w => if w.start = tag then f w else w } }

/-- Changes the booking with a ref. -/
def State.modBooking (s : State) (ref : Text) (f : Booking → Booking) : State :=
  { s with be := { s.be with book := s.be.book.map fun b => if b.ref = ref then f b else b } }

/-! ### Charges (R18) -/

/-- The states in which a booking may hold a charge. -/
def BookingState.charged : BookingState → Bool
  | .opened => true | .arrived => true | .admitted => true | .consumed => true | _ => false

/-- The booking holds a charge. -/
def State.holdsCharge (s : State) (b : Booking) : Bool :=
  b.state.charged && (s.windowOf b.tag).isSome

/-- A charge a booking holds is returned: its window's count in its pool falls by one. -/
def State.returnCharge (s : State) (b : Booking) : State :=
  if s.holdsCharge b then s.modWindow b.tag (·.discharge b.pool) else s

/-- The charge of a booking is moved to a pool of a window in the ring: the new count rises, the old count falls
if a charge stood there, and tag, pool and record of L are rewritten. -/
def State.moveCharge (s : State) (ref : Text) (w : Window) (p : Pool) : State :=
  match s.booking? ref with
  | none => s
  | some b =>
    let held := s.holdsCharge b
    let s := s.modWindow w.start (·.charge p)
    let s := if held then s.modWindow b.tag (·.discharge b.pool) else s
    s.modBooking ref fun b => { b with tag := w.start, pool := p, recL := w.length }

/-- A carrier's state, if it is in the table. -/
def State.carrier? (s : State) (code : Text) : Option CarrierState :=
  (s.be.carriers.find? fun c => decide (c.code = code)).map (·.state)

end Sys2Proof.Machine
end

