-- ==== Sys2Proof/Machine/Standing.lean ====
section
/-! DEFINITION. The standing computation (3.6): class, pull-forward, the outcome of a request, absorption, and the
standings written into the visit (R51 to R59). -/

namespace Sys2Proof.Machine

/-- The class of a booking (R52). -/
inductive ArrivalClass | unjudged | onTime | lateGrace | early | late
  deriving DecidableEq, Repr

/-- The offset of a claim (R51). -/
def offset (t tag : Nat) : Int := (t : Int) - (tag : Int)

/-- The first row of R52's table that fits: clock state, basis, offset d, length L, settings E and G. -/
def classOf (clock : ClockState) (charged : Bool) (d : Int) (len e g : Nat) : ArrivalClass :=
  if clock = .lost then .unjudged
  else if !charged then .late
  else if d < -(e : Int) then .early
  else if d < (len : Int) then .onTime
  else if d < ((len + g : Nat) : Int) then .lateGrace
  else .late

/-- The length of a booking's window, or the booking's record of it (R51). -/
def State.lengthOf (s : State) (b : Booking) : Nat :=
  match s.windowOf b.tag with
  | some w => w.length
  | none => b.recL

/-- The class of a booking as it stands. -/
def State.classify (s : State) (b : Booking) : ArrivalClass :=
  classOf s.tb.clock (s.holdsCharge b) (offset s.now b.tag) (s.lengthOf b) s.cfg.e s.cfg.g

/-- The target pool of a pull-forward in the running window (R54). -/
def pullTarget (w : Window) (special : Special) : Option Pool :=
  if special ≠ .plain ∧ w.hasRoom .reserve then some .reserve
  else if w.hasRoom .general then some .general
  else none

/-- The targets of the EARLY bookings, each seeing the counts as those before it would leave them; none when one
of them finds no target (R55). -/
def pullTargets : Window → List Booking → Option (List (Text × Pool))
  | _, [] => some []
  | w, b :: rest =>
    match pullTarget w b.special with
    | none => none
    | some p => (pullTargets (w.charge p) rest).map fun l => (b.ref, p) :: l

/-- A pull-forward is applied (R54). -/
def State.pullForward (s : State) (w : Window) (ref : Text) (p : Pool) : State :=
  let s := (s.moveCharge ref w p).modBooking ref fun b => { b with flags := { b.flags with pulled := true } }
  s.modWindow w.start (·.tally .earlyPulled)

/-- An absorption is applied (R57). -/
def State.absorb (s : State) (w : Window) (ref : Text) : State :=
  let s := (s.moveCharge ref w .general).modBooking ref fun b =>
    { b with flags := { b.flags with absorbed := true } }
  s.modWindow w.start (·.tally .lateAbsorbed)

/-- A booking of a class other than EARLY is applied under PROCEED (R53, R57, R58): its standing, and whether it
calls for NO_SLOT. -/
def State.applyClass (s : State) (b : Booking) (c : ArrivalClass) : State × Standing × Bool :=
  match c with
  | .onTime => (s.modWindow b.tag (·.tally .onTime), .onTime, false)
  | .lateGrace => (s.modWindow b.tag (·.tally .lateGrace), .lateGrace, false)
  | .unjudged => (s.modWindow b.tag (·.tally .unjudged), .unjudged, !s.holdsCharge b)
  | .early => (s, .earlyPulled, false)
  | .late =>
    match s.runningWindow with
    | some w => if w.hasRoom .general then (s.absorb w b.ref, .lateAbsorbed, false)
      else (s, .lateUnplaced, true)
    | none => (s, .lateUnplaced, true)

/-- The bookings that are not EARLY are applied in order. -/
def State.applyAll (s : State) : List (Booking × ArrivalClass) → State × List (Text × Standing) × Bool
  | [] => (s, [], false)
  | (b, c) :: rest =>
    let (s, st, n) := s.applyClass b c
    let (s, l, m) := s.applyAll rest
    (s, (b.ref, st) :: l, n || m)

/-- The eligible minute of a set of early bookings: the greatest S - E, or 0 (R56). -/
def eligibleOf (e : Nat) (early : List Booking) : Nat :=
  (early.map fun b => b.tag - e).foldl max 0

/-- The result of a standing computation. -/
structure JudgeResult where
  judged : List Judged
  stage : Option Nat
  noSlot : Bool
  deriving DecidableEq, Repr

/-- The HOLDOVER flag of the standings given now. -/
def State.inHoldover (s : State) : Bool := decide (s.tb.clock = .holdover)

/-- The answer for one booking judged (R59): tag and pool as they stand after the request. -/
def State.judgedOf (s : State) (d : Int) (ref : Text) (st : Standing) : Judged :=
  match s.booking? ref with
  | some b => { ref, standing := st, holdover := s.inHoldover, offset := d, tag := b.tag, pool := b.pool }
  | none => { ref, standing := st, holdover := s.inHoldover, offset := d, tag := 0, pool := .general }

/-- The standing of every booking of a request is computed, the outcome decided before any charge moves (R55). -/
def State.judge (s : State) (refs : List Text) : State × JudgeResult :=
  let bs := refs.filterMap s.booking?
  let classed := bs.map fun b => (b, s.classify b)
  let early := (classed.filter fun p => decide (p.2 = .early)).map (·.1)
  let others := classed.filter fun p => decide (p.2 ≠ .early)
  let targets : Option (Window × List (Text × Pool)) :=
    match s.runningWindow with
    | some w => (pullTargets w early).map fun l => (w, l)
    | none => none
  let answers := fun (t : State) (standing : Text → Standing) =>
    bs.map fun b => t.judgedOf (offset s.now b.tag) b.ref (standing b.ref)
  let proceed := fun (t : State) =>
    let (t, l, n) := t.applyAll others
    let standing := fun r => match l.find? fun p => decide (p.1 = r) with
      | some p => p.2
      | none => .earlyPulled
    let r : JudgeResult := { judged := answers t standing, stage := none, noSlot := n }
    (t, r)
  if early.isEmpty then proceed s
  else
    match targets with
    | some (w, l) => proceed (l.foldl (fun t p => t.pullForward w p.1 p.2) s)
    | none =>
      let isEarly := fun r => early.any fun b => decide (b.ref = r)
      let standing := fun r => if isEarly r then Standing.earlyStaged else .deferred
      (s, { judged := answers s standing, stage := some (eligibleOf s.cfg.e early), noSlot := false })

/-- The standings are written into the visit, replacing any those bookings had (R59). -/
def State.writeStandings (s : State) (n : Nat) (l : List Judged) : State :=
  if l.isEmpty then s
  else
    s.writeVisit n .stage fun v =>
      { v with
        claimed := v.claimed.map fun c =>
          match l.find? fun j => decide (j.ref = c.ref) with
          | some j => { c with standing := j.standing, holdover := j.holdover }
          | none => c }

end Sys2Proof.Machine
end

