-- ==== Sys2Proof/Machine/Engine.lean ====
section
/-! DEFINITION. The Book Engine's service (2.5, 2.6, 3.5): the grant order (R24), the search (R26), the claim with
its resumption (R27, R71), the booking changes of R28, and the retirement (R47 to R50). What a lane does with an
answer is not here. -/

namespace Sys2Proof.Machine

/-! ### The grant order (R24) -/

/-- Whom the Book Engine serves next. -/
inductive Grant | retirement | port | lane (l : LaneId) | none
  deriving DecidableEq, Repr

/-- A lane waits at the Book Engine: with a request it owes, a search or a claim. -/
def Lane.waitsBE (x : Lane) : Bool :=
  !x.owed.isEmpty || match x.request with
    | .search _ => true
    | .claim _ => true
    | _ => false

/-- The command in progress waits at the Book Engine. -/
def State.portWaitsBE (s : State) : Bool :=
  match s.cp.inProgress with
  | some p =>
    match p.phase with
    | .waiting => true
    | .admitting _ => true
    | .ending .. => true
    | _ => false
  | none => false

/-- The first waiting lane counting upward from the lane after the last served. -/
def State.nextLane (s : State) : Option LaneId :=
  ((List.finRange 12).map fun k => s.be.lastLane + 1 + k).find? fun l => (s.lane l).waitsBE

/-- A command in progress waits for the retirements it made due: its phase ends when they are served (R7, R11, R62). -/
def Phase.settles : Phase → Bool
  | .retiring .. | .recoverForward .. | .recoverBackward .. => true
  | _ => false

/-- The request granted where no retirement is held: R24's second to fourth steps. -/
def State.turn (s : State) : Grant :=
  match s.portWaitsBE, s.nextLane with
  | false, none => .none
  | true, none => .port
  | false, some l => .lane l
  | true, some l => if s.be.lastClass = .port then .lane l else .port

/-- The claim whose turn it is, of a lane that owes no other request; none where another request has the turn. -/
def State.claimTurn (s : State) : Option ClaimFirst :=
  match s.turn with
  | .lane l =>
    match (s.lane l).owed, (s.lane l).request, (s.lane l).visit with
    | [], .claim refs, some n => some { lane := l, visit := n, refs }
    | _, _, _ => none
  | _ => none

/-- A noted claim still waits as it was noted. -/
def State.stillClaims (s : State) (c : ClaimFirst) : Bool :=
  let x := s.lane c.lane
  decide (x.visit = some c.visit) && x.owed.isEmpty && decide (x.request = .claim c.refs)

/-- The lane granted ahead of a retirement that fell due at the clock's own minute: its claim waited as that minute began,
and the turn was its own (R61); none while the work that made a retirement due waits for it (R7, R9, R11, R62). Which of
the two comes first is the order in which their rows are given (notes/assumptions/33.md). -/
def State.laneAhead (s : State) : Option LaneId :=
  match s.be.claimAhead with
  | some c =>
    if s.stillClaims c && s.tb.target.isNone && !s.cp.inProgress.any (·.phase.settles) then some c.lane else none
  | none => none

/-- The next request granted (R24). -/
def State.nextGrant (s : State) : Grant :=
  if s.retirementHeld then
    match s.laneAhead with
    | some l => .lane l
    | none => .retirement
  else s.turn

/-- A grant to the port is recorded. -/
def State.servePort (s : State) : State := { s with be := { s.be with lastClass := .port } }

/-- A grant to a lane is recorded. -/
def State.serveLane (s : State) (l : LaneId) : State :=
  { s with be := { s.be with lastClass := .lane, lastLane := l, claimAhead := none } }

/-! ### The search (R26) -/

/-- A booking matches a search key. -/
def SearchKey.hits (k : SearchKey) (b : Booking) : Bool :=
  match k with
  | .plate t => decide (b.plate = some t)
  | .card t => decide (b.card = some t)

/-- The staged visit that claims a booking. -/
def State.stagedClaimant (s : State) (b : Booking) : Option Nat :=
  if b.state = .arrived then
    match b.claimant.bind s.writable? with
    | some v => if v.stage = .staged then some v.number else none
    | none => none
  else none

/-- The better of two resumable matches: earliest tag, then lowest visit number. Of two matching bookings of one visit and
tag the first in book order stays, and its ref is the one returned (DESIGN CHOICE, notes/assumptions/35.md). -/
def betterResume (best : Option (Nat × Nat × Text)) (x : Nat × Nat × Text) : Option (Nat × Nat × Text) :=
  match best with
  | none => some x
  | some y => if x.1 < y.1 ∨ (x.1 = y.1 ∧ x.2.1 < y.2.1) then some x else some y

/-- ONE, TWO or MANY by count; none for no booking. -/
def countResult : List Booking → SearchResult
  | [] => .none
  | [a] => .one a.ref
  | [a, b] => .two a.ref b.ref
  | l => .many l.length

/-- The result of a book search. -/
def State.search (s : State) (k : SearchKey) : SearchResult :=
  let hits := s.be.book.filter k.hits
  let staged := hits.filterMap fun b => (s.stagedClaimant b).map fun n => (b.tag, n, b.ref)
  match staged.foldl betterResume none with
  | some (_, n, r) => .resume n r
  | none =>
    let opens := hits.filter fun b => decide (b.state = .opened) && (s.windowOf b.tag).isSome
    if !opens.isEmpty then
      countResult (opens.filter fun b => opens.all fun c => decide (b.tag ≤ c.tag))
    else
      let lapsed := hits.filter fun b => decide (b.state = .lapsed)
      countResult (lapsed.filter fun b => lapsed.all fun c => decide (c.tag ≤ b.tag))

/-! ### The booking changes of R28 -/

/-- The refs a visit claims. -/
def State.claimedRefs (s : State) (n : Nat) : List Text :=
  match s.visit? n with
  | some v => v.claimed.map (·.ref)
  | none => []

/-- Admission: each ARRIVED booking of the visit becomes ADMITTED. -/
def State.admitBookings (s : State) (n : Nat) : State :=
  (s.claimedRefs n).foldl
    (fun s r => s.modBooking r fun b => if b.state = .arrived then { b with state := .admitted } else b) s

/-- One booking on turn-back or abandon: CANCELLED with its charge returned if WITHDRAWN, else OPEN if its window
is in the ring and LAPSED if not. -/
def State.unclaim (s : State) (r : Text) : State :=
  match s.booking? r with
  | none => s
  | some b =>
    let s' := if b.flags.withdrawn then s.returnCharge b else s
    let st : BookingState :=
      if b.flags.withdrawn then .cancelled
      else if (s.windowOf b.tag).isSome then .opened else .lapsed
    s'.modBooking r fun b => { b with state := st, claimant := none }

/-- Every move a booking owns in a visit is DONE. -/
def Visit.allDone (v : Visit) (r : Text) : Bool :=
  v.moves.all fun m => decide (m.owner ≠ r) || decide (m.state = .done)

/-- One booking at close: CONSUMED, INCOMPLETE if any move it owns is not DONE. -/
def State.consume (s : State) (v : Visit) (r : Text) : State :=
  s.modBooking r fun b =>
    { b with
      state := .consumed, claimant := none
      flags := { b.flags with incomplete := b.flags.incomplete || !v.allDone r } }

/-- The bookings step of an ending sequence, by the kind of end. -/
def State.endBookings (s : State) (n : Nat) (k : EndKind) : State :=
  match s.visit? n with
  | none => s
  | some v =>
    match k with
    | .close => (v.claimed.map (·.ref)).foldl (fun s r => s.consume v r) s
    | _ => (v.claimed.map (·.ref)).foldl State.unclaim s

/-! ### The retirement (R47 to R50) -/

/-- A staged visit of the retiring window is abandoned: its bookings settled, those of the retiring window LAPSED,
and the visit ended with no Book Engine request of its own (R50, R72). -/
def State.abandonStaged (s : State) (start n : Nat) : State :=
  let settle := fun (s : State) (r : Text) =>
    match s.booking? r with
    | none => s
    | some b =>
      if b.tag = start ∧ !b.flags.withdrawn then
        s.modBooking r fun b => { b with state := .lapsed, claimant := none }
      else s.unclaim r
  (((s.claimedRefs n).foldl settle s).beginEnding n .abandon).finishEnding n

/-- One booking of the retiring window (R48), with the counts of bookings lapsed and visits abandoned so far. -/
def State.retireBooking (start : Nat) (acc : State × Nat) (r : Text) : State × Nat :=
  let (s, visits) := acc
  match s.booking? r with
  | none => acc
  | some b =>
    if b.state = .opened then (s.modBooking r fun b => { b with state := .lapsed }, visits)
    else
      match s.stagedClaimant b with
      | some n => (s.abandonStaged start n, visits + 1)
      | none => acc

/-- A retirement request is served: the head is rechecked, the book walked, the window removed and the
last-retired record written (R47, R49). -/
def State.retire (s : State) : State :=
  match s.be.ring with
  | [] => s
  | w :: _ =>
    if !s.due w then s
    else
      let refs := (s.be.book.filter fun b => decide (b.tag = w.start)).map (·.ref)
      let lapsedIn := fun (t : State) =>
        t.be.book.countP fun b => decide (b.tag = w.start) && decide (b.state = .lapsed)
      let (t, visits) := refs.foldl (State.retireBooking w.start) (s, 0)
      let kept := (t.be.ring.head?).getD w
      let r : LastRetired :=
        { window := kept, servedAt := s.now, lapsed := lapsedIn t - lapsedIn s, abandoned := visits }
      { t with be := { t.be with ring := t.be.ring.tail, lastRetired := some r, claimAhead := none } }

/-! ### The claim (R27) -/

/-- What a claim finds at a ref. -/
inductive Found | notFound | free (b : Booking) | staged (b : Booking) (visit : Nat) | taken | finished
  deriving DecidableEq, Repr

/-- The row of R27's table a ref falls under. -/
def State.found (s : State) (r : Text) : Found :=
  match s.booking? r with
  | none => .notFound
  | some b =>
    match b.state with
    | .opened => .free b
    | .lapsed => .free b
    | .arrived =>
      match s.stagedClaimant b with
      | some n => .staged b n
      | none => .taken
    | .admitted => .taken
    | .consumed => .finished
    | .cancelled => .finished

/-- The driver match of a booking with the card carried. -/
def driverMatch (b : Booking) (card : Option Text) : DriverMatch :=
  match b.card, card with
  | none, _ => .noneNamed
  | some _, none => .notPresented
  | some c, some d => if c = d then .matched else .mismatch

/-- The carrier state of a booking. -/
def State.carrierOf (s : State) (b : Booking) : CarrierState := (s.carrier? b.carrier).getD .active

/-- The answer to a ref that is not claimed or resumed. -/
def Found.answer : Found → RefAnswer
  | .notFound => .notFound
  | .taken => .taken
  | .finished => .notClaimable
  | _ => .skipped

/-- A booking is given to a visit: ARRIVED with its claimant, its moves copied with their records (R27, R65). -/
def State.bind (s : State) (n : Nat) (b : Booking) : State :=
  let s := s.modBooking b.ref fun b => { b with state := .arrived, claimant := some n }
  s.writeVisit n .stage fun v =>
    { v with
      claimed := v.claimed ++ [{ ref := b.ref, standing := .unjudged, holdover := false }]
      moves := v.moves ++ b.moves.map (newMove b.ref) }

/-- NO_SLOT and CARRIER are placed where the request calls for them; the answer to NO_SLOT (R58, R27). -/
def State.claimHolds (s : State) (n : Nat) (noSlot suspended : Bool) : State × Option HoldAnswer :=
  let (s, a) :=
    if noSlot then
      let (s, a) := s.placeTold n .noSlot .lane
      (s, some a)
    else (s, none)
  if suspended then ((s.placeTold n .carrier .lane).1, a) else (s, a)

/-- The Visit Table binds a staged visit to a lane in one write, the lane's new visit given back (R71). -/
def State.resumeVisit (s : State) (l : LaneId) (new old : Nat) : State :=
  let fresh := s.visit? new
  let s := (s.beginEnding new .abandon).finishEnding new
  let s := { s with vt := { s.vt with stagedIn := s.vt.stagedIn.filter fun m => decide (m ≠ old) } }
  let s := s.modVisit old fun v =>
    { v with
      stage := .atLane, lane := some l, staging := none
      direction := match v.direction with
        | some (.staging _) => none
        | d => d
      arrivalSec := (fresh.map (·.arrivalSec)).getD v.arrivalSec
      axle := (fresh.map (·.axle)).getD v.axle
      plate := match fresh.bind (·.plate) with
        | some p => some p
        | none => v.plate
      card := match fresh.bind (·.card) with
        | some c => some c
        | none => v.card }
  let s := ((s.mark old .stage).mark old .checks).mark old .direction
  s.modLane l fun x => { x with visit := some old, identTold := false, finalTold := false }

/-- A claim with a resumable ref: the staged visit is bound and all its bookings judged again. -/
def State.claimResume (s : State) (l : LaneId) (new : Nat) (card : Option Text) (refs : List Text)
    (b : Booking) (old : Nat) : State × ClaimAnswer :=
  let suspended := decide (s.carrierOf b = .suspended)
  let s := s.resumeVisit l new old
  let (s, j) := s.judge (s.claimedRefs old)
  let s := s.writeStandings old j.judged
  let answer : RefAnswer := .resumed old (driverMatch b card) (s.carrierOf b)
  let (s, a) := s.claimHolds old j.noSlot suspended
  (s, { refs := refs.map fun r => (r, if r = b.ref then answer else .skipped)
        tooMany := false, judged := j.judged, stage := j.stage, resumed := some old, noSlot := a })

/-- A claim with no resumable ref: every free booking is judged and claimed, each ref answered on its own. -/
def State.claimFree (s : State) (n : Nat) (card : Option Text) (refs : List Text) : State × ClaimAnswer :=
  let found := refs.map fun r => (r, s.found r)
  let free := found.filterMap fun p => match p.2 with
    | .free b => some b
    | _ => none
  let answers := found.map fun p => (p.1, match p.2 with
    | .free b => RefAnswer.claimed (driverMatch b card) (s.carrierOf b)
    | f => f.answer)
  let count := s.claimedRefs n |>.length
  if count + free.length > 2 then
    (s, { refs := [], tooMany := true, judged := [], stage := none, resumed := none, noSlot := none })
  else
    let suspended := free.any fun b => decide (s.carrierOf b = .suspended)
    let (s, j) := s.judge (free.map (·.ref))
    let s := free.foldl (fun s b => s.bind n b) s
    let s := s.writeStandings n j.judged
    let (s, a) := s.claimHolds n j.noSlot suspended
    (s, { refs := answers, tooMany := false, judged := j.judged, stage := j.stage, resumed := none, noSlot := a })

/-- The first ref of a claim that names a booking of a staged visit, for a lane whose new visit claims none (R27, R71). -/
def State.resumable (s : State) (n : Nat) (refs : List Text) : Option (Booking × Nat) :=
  if (s.claimedRefs n).isEmpty then
    refs.findSome? fun r => match s.found r with
      | .staged b old => some (b, old)
      | _ => none
  else none

/-- A claim is served (R27). -/
def State.serveClaim (s : State) (l : LaneId) (n : Nat) (refs : List Text) : State × ClaimAnswer :=
  let card := (s.visit? n).bind (·.card)
  match s.resumable n refs with
  | some (b, old) => s.claimResume l n card refs b old
  | none => s.claimFree n card refs

/-- Identification is done by an answer: some ref CLAIMED or RESUMED (R139). -/
def ClaimAnswer.identified (a : ClaimAnswer) : Bool :=
  a.refs.any fun p => match p.2 with
    | .claimed .. => true
    | .resumed .. => true
    | _ => false

/-- Some booking answered CLAIMED or RESUMED has driver match MISMATCH or NOT_PRESENTED (R139). -/
def ClaimAnswer.wrongDriver (a : ClaimAnswer) : Bool :=
  let bad := fun m : DriverMatch => decide (m = .mismatch) || decide (m = .notPresented)
  a.refs.any fun p => match p.2 with
    | .claimed m _ => bad m
    | .resumed _ m _ => bad m
    | _ => false

end Sys2Proof.Machine
end

