-- ==== Sys2Proof/Machine/LaneOps.lean ====
section
/-! DEFINITION. The lane machine's operations (chapters 5 and 7): entry to each state, arrival and slot, the
requests and what follows their answers, input events, faults, and the end of a release. -/

namespace Sys2Proof.Machine

/-! ### Entries (R128, R105, R133) -/

/-- The items of 7.1's table, all clear. -/
def Lane.cleared (x : Lane) : Lane :=
  { x with
    visit := none, sendOff := none, request := .none, pendingEntry := none, pendingPlate := none
    plateToSearch := false, promptMode := .identify, nothingEntered := false, trouble := .none
    approachRef := none, parkRef := none, wakeArmed := none, lastReleased := none, endedPrompt := none
    exitTaken := false, identTold := false, finalTold := false, keptExpiry := false, keptGrant := false
    keptEvents := [] }

/-- Every timer STOPPED. -/
def Lane.stopTimers (x : Lane) : Lane := { x with timers := Vector.replicate 6 .stopped }

/-- The items a lane loses on entry to CLOSED, whatever the cause: items clear, memory and kept answers
discarded, timers stopped (R128, R133, R111). The axle count is 0 and the window closed on each such entry, as R111 has
it at GATE_RESET (DESIGN CHOICE, notes/assumptions/47.md). -/
def Lane.shut (x : Lane) : Lane :=
  { x.cleared.stopTimers with
    state := .closed, closing := false, memApproach := false, memStop := false, axleCount := 0
    axleOpen := false, remembered := none, keptAnswers := [] }

/-- The lane takes the message its link holds, as a CLOSED lane takes any message: it is discarded (R119). -/
def State.dropHeldMessage (s : State) (l : LaneId) : State := s.modLink l fun k => { k with rxBuf := none }

/-- A lane enters CLOSED (R128). -/
def State.enterClosed (s : State) (l : LaneId) : State :=
  ((s.modLane l Lane.shut).queuePrompt l .laneClosed).dropHeldMessage l

/-- A lane enters APPROACH from IDLE or PARKED: the axle window opens at 0 (R94, R106, R133). -/
def State.enterApproach (s : State) (l : LaneId) : State :=
  s.modLane l fun x =>
    { x with
      state := .approach, approachRef := some s.now, parkRef := none, wakeArmed := none
      axleCount := 0, axleOpen := true }

/-- Slots of the Visit Table not in use (R66). -/
def State.slotFree (s : State) : Bool := decide (s.vt.visits.length < Config.slotCount)

/-! ### Requests (R136, R137) -/

/-- A lane starts a search or a claim. It stands as the request in flight at once, while the lane still owes a request
for a visit that has left it too; the owed one is granted first (DESIGN CHOICE, notes/assumptions/37.md). -/
def State.startRequest (s : State) (l : LaneId) (r : Flight) : State :=
  s.modLane l fun x => { x with request := r }

/-- A taken entry starts its request: a card a search, a ref a claim (R136). -/
def State.startEntry (s : State) (l : LaneId) (e : Entry) : State :=
  match e with
  | .card t => s.startRequest l (.search (.card t))
  | .ref t => s.startRequest l (.claim [t])

/-- An entry arrives in IDENTIFY with a visit and no claimed booking (R136). -/
def State.entryArrives (s : State) (l : LaneId) (n : Nat) (e : Entry) : State :=
  let s := match e with
    | .card t => s.writeVisit n .checks fun v => { v with card := some t }
    | .ref _ => s
  let s := s.modLane l fun x => { x with nothingEntered := false }
  if (s.lane l).request = .none then s.startEntry l e
  else s.modLane l fun x => { x with pendingEntry := some e }

/-- A pending entry is taken, and starts its request (R136). A card swiped before the visit existed is first
written into it. -/
def State.takeEntry (s : State) (l : LaneId) (n : Nat) (e : Entry) : State :=
  match e with
  | .card t => if (s.visit? n).bind (·.card) = some t then s.startEntry l e else s.entryArrives l n e
  | .ref _ => s.startEntry l e

/-! ### Arrival and slot (R134, R135, R67, R68) -/

/-- Step 1 of R135: the pending plate is written into the new visit. -/
def State.writePendingPlate (s : State) (l : LaneId) : State :=
  let x := s.lane l
  match x.visit, x.pendingPlate with
  | some n, some p =>
    (s.writeVisit n .checks fun v => { v with plate := some p }).modLane l fun x =>
      { x with pendingPlate := none }
  | _, _ => s

/-- Steps 2 to 5 of R135. -/
def State.takeUpVisit (s : State) (l : LaneId) : State :=
  match (s.lane l).visit with
  | none => s
  | some n =>
    let s := s.startDamageWindow l
    let plate := (s.visit? n).bind (·.plate)
    let entry := (s.lane l).pendingEntry
    let s := s.modLane l fun x =>
      { x with promptMode := .identify, nothingEntered := plate.isNone && entry.isNone }
    let s := s.queuePrompt l .identify
    let s := s.startTimer l .pedestal (s.lane l).cfg.pedestalLimit
    match plate, entry with
    | some p, _ => s.startRequest l (.search (.plate p))
    | none, some e => (s.modLane l fun x => { x with pendingEntry := none }).entryArrives l n e
    | none, none => s

/-- A slot is granted to a lane; a stopped lane takes steps 2 to 5 at its resumption. -/
def State.grantSlot (s : State) (l : LaneId) : State :=
  let s := (s.createVisit l).writePendingPlate l
  if (s.lane l).isStopped then s.keepAnswer l .slotGrant else s.takeUpVisit l

/-- A lane asks for a slot (R67). -/
def State.requestSlot (s : State) (l : LaneId) : State :=
  if l ∈ s.vt.slotWait then s
  else if s.slotFree && s.vt.slotWait.isEmpty then s.grantSlot l
  else ({ s with vt := { s.vt with slotWait := s.vt.slotWait ++ [l] } }).queuePrompt l .wait

/-- A lane leaves the slot-wait list. -/
def State.leaveSlotWait (s : State) (l : LaneId) : State :=
  { s with vt := { s.vt with slotWait := s.vt.slotWait.filter fun k => decide (k ≠ l) } }

/-- A free slot is granted to the lane at the head of the slot-wait list (R68). -/
def State.grantSlotWait (s : State) : State :=
  match s.vt.slotWait with
  | l :: rest => if s.slotFree then State.grantSlot { s with vt := { s.vt with slotWait := rest } } l else s
  | [] => s

/-- A STOP OCCUPY taken in IDLE or APPROACH (R94, R131, R134). -/
def State.takeStop (s : State) (l : LaneId) : State :=
  let s := s.modLane l fun x => { x with axleOpen := false }
  if (s.lane l).closing then s.enterClosed l
  else
    (s.modLane l fun x => { x with state := .identify, visit := none, approachRef := none, parkRef := none }).requestSlot l

/-- A lane enters IDLE, or CLOSED if CLOSING; the next-truck memory is taken last (R128). A visit of a BACK send-off whose
bookings step is still owed is bound no more (R128; DESIGN CHOICE against R72, notes/assumptions/13.md). -/
def State.enterIdle (s : State) (l : LaneId) : State :=
  if (s.lane l).closing then s.enterClosed l
  else
    let x := s.lane l
    let s := s.modLane l fun x =>
      { x.cleared with
        state := .idle, parkRef := some s.now, axleCount := 0, axleOpen := false, memApproach := false
        memStop := false }
    let s := s.queueMsg l .resetKiosk
    let s := if x.memApproach then s.enterApproach l else s
    if x.memStop then s.takeStop l else s

/-- A lane enters PARKED (R105, R106). -/
def State.enterParked (s : State) (l : LaneId) : State :=
  let s := s.modLane l fun x => { x with state := .parked, parkRef := none, wakeArmed := some (!x.reads .approach) }
  s.queueMsg l .resetKiosk

/-- A lane enters FAULT for a cause other than STOPPED: LANE_FAULT is set, the memory discarded, RAISE_LIMIT and
CLEAR_LIMIT stopped, and a withdrawal ordered (R99, R100, R133, R148). From RELEASING it is a fault without a visit,
the ending one of a BACK send-off included (R147; notes/assumptions/13.md). -/
def State.enterFault (s : State) (l : LaneId) (c : FaultCause) : State :=
  let s := s.modLane l fun x =>
    { (x.setTimer .raise .stopped).setTimer .clear .stopped with
      state := .fault c, memApproach := false, memStop := false
      visit := if x.state = .releasing then none else x.visit }
  (s.orderWithdrawal l).flagLaneFault

/-! ### The change of the gate minute (R105, R133) -/

/-- A lane's action at a change of the gate minute: an IDLE lane may park, a lane in APPROACH may go IDLE. -/
def State.laneMinute (s : State) (l : LaneId) : State :=
  let x := s.lane l
  match x.state with
  | .idle =>
    match x.parkRef with
    | some r => if r + x.cfg.parkAfter ≤ s.now then s.enterParked l else s
    | none => s
  | .approach =>
    match x.approachRef with
    | some r =>
      if r + x.cfg.parkAfter ≤ s.now ∧ !x.reads .approach ∧ !x.reads .stop then s.enterIdle l else s
    | none => s
  | _ => s

/-- The due visits not yet ELIGIBLE are handed to the Visit Table, in staging-list order (R6, R81), before any
retirement due at the same minute (DESIGN CHOICE, notes/assumptions/61.md). -/
def State.handEligible (s : State) : State :=
  if s.tb.clock = .unset then s
  else s.stagingList.foldl (fun s n => if s.eligibleMinute n ≤ s.now then s.markEligible n else s) s

/-- The gate minute moves to a new value: lanes and staged visits follow it, and the state checks are made. A visit due
at it is marked ELIGIBLE here, before a retirement due at the same minute, where R6 allows either order (DESIGN CHOICE,
notes/assumptions/61.md). -/
def State.moveMinute (s : State) (m : Nat) : State :=
  let old := s.tb.minute
  let s := { s with tb := { s.tb with minute := some m } }
  let s := if old = some m then s else allLanes.foldl State.laneMinute s
  s.handEligible

/-! ### Identification (R138 to R142) -/

/-- PEDESTAL_LIMIT is acted on: NO_BOOKING, and TIMEOUT where nothing was entered, then HELD (R140). -/
def State.actExpiry (s : State) (l : LaneId) (n : Nat) : State :=
  let (s, _) := s.placeTold n .noBooking .lane
  let s := if (s.lane l).nothingEntered then (s.placeTold n .timeout .lane).1 else s
  (s.modLane l fun x => { x with keptExpiry := false }).enterHeld l

/-- After an answer that does not complete identification: the kept expiry, a plate to search, or the pending
entry (R136, R137, R140). -/
def State.afterAnswer (s : State) (l : LaneId) (n : Nat) : State :=
  let x := s.lane l
  if x.keptExpiry then s.actExpiry l n
  else
    match x.plateToSearch, (s.visit? n).bind (·.plate), x.pendingEntry with
    | true, some p, _ =>
      (s.modLane l fun x => { x with plateToSearch := false }).startRequest l (.search (.plate p))
    | _, _, some e => (s.modLane l fun x => { x with pendingEntry := none }).takeEntry l n e
    | _, _, none => s

/-- One kept event of a HELD lane, taken as if it had just arrived, by the lane's state and hold list then (R149). -/
def State.takeKeptEvent (s : State) (l : LaneId) (e : KeptEvent) : State :=
  match e with
  | .offer => if (s.lane l).state = .held then s.offerTrouble l else s
  | .emptied =>
    match (s.lane l).visit.bind s.visit? with
    | some v => if v.holds.isEmpty then s.laneHoldEmptied l else s
    | none => s

/-- The events kept while a request was in flight are taken once its answer has been acted on. -/
def State.takeKeptEvents (s : State) (l : LaneId) : State :=
  let es := (s.lane l).keptEvents
  es.foldl (fun s e => s.takeKeptEvent l e) (s.modLane l fun x => { x with keptEvents := [] })

/-- The lane acts on the result of a book search (R138). Where a PEDESTAL_LIMIT expiry was kept, the expiry alone is acted on
(R140; DESIGN CHOICE, notes/assumptions/15.md). -/
def State.takeSearch (s : State) (l : LaneId) (r : SearchResult) : State :=
  let x := s.lane l
  match x.state, x.visit with
  | .identify, some n =>
    if x.keptExpiry then s.actExpiry l n
    else
      match r with
      | .resume _ ref => s.startRequest l (.claim [ref])
      | .one ref => s.startRequest l (.claim [ref])
      | .two a b => s.startRequest l (.claim [a, b])
      | .many _ =>
        ((s.modLane l fun x => { x with promptMode := .enterRef }).queuePrompt l .enterRef).afterAnswer l n
      | .none => (s.queuePresent l).afterAnswer l n
  | _, _ => s.takeKeptEvents l

/-- The axle check (R95). -/
def State.axleCheck (s : State) (l : LaneId) (n : Nat) : State :=
  match s.visit? n with
  | some v =>
    if v.drops.length = 2 ∧ v.axle < (s.lane l).cfg.axleTwinMin then (s.placeTold n .axleCheck .lane).1 else s
  | none => s

/-- A STAGE outcome: a staging place is reserved and a STAGING send-off begun, or with 24 places taken the Visit Table
abandons the visit, RESERVE standing until its ending sequence has let the lane go (R142, R80, R72). -/
def State.sendToStaging (s : State) (l : LaneId) (n m : Nat) : State :=
  if s.stagingCount < Config.stagingSize then
    let g : Staging := { minute := m, eligible := false }
    let s := s.writeVisit n .stage fun v => { v with staging := some g }
    let s := s.writeVisit n .direction fun v => { v with direction := some (.staging m) }
    s.beginSendOff l .staging (some m)
  else if (s.writable? n).isSome then
    let s := s.modLane l fun x =>
      { (x.setTimer .sealWindow .stopped).setTimer .damageWindow .stopped with request := .reserve m }
    (s.owe l (.ending n .abandon)).beginEnding n .abandon
  else s

/-- The lane acts on the answer FULL to its RESERVE: it binds no visit any more and begins a BACK send-off without one
(R142). -/
def State.takeStagingFull (s : State) (l : LaneId) (m : Nat) : State :=
  let x := s.lane l
  if x.state = .identify ∨ x.state = .held then
    let s := s.modLane l fun x => { x with visit := none, keptGrant := false, keptEvents := [] }
    s.beginSendOff l .back (some m)
  else s

/-- The lane acts on the answer to a claim (R139 to R142). -/
def State.takeClaim (s : State) (l : LaneId) (a : ClaimAnswer) : State :=
  let x := s.lane l
  match x.state, x.visit with
  | .identify, some n =>
    if !a.identified then (s.queuePresent l).afterAnswer l n
    else
      let s := (s.stopTimer l .pedestal).modLane l fun x =>
        { x with pendingEntry := none, plateToSearch := false, keptExpiry := false }
      match a.stage with
      | some m => s.sendToStaging l n m
      | none =>
        let s := if a.wrongDriver then (s.placeTold n .driver .lane).1 else s
        let s := (s.axleCheck l n).openSealWindow l
        ((s.modLane l fun x => { x with state := .checking }).queuePresent l).checkFinal l
  | _, _ => s.takeKeptEvents l

/-! ### The direction (R143, R149, R150) -/

/-- The lane goes to HELD, or stays there, after an answer that assigns nothing: a kept grant then begins the TROUBLE
send-off, and kept events are taken. -/
def State.holdAfterDirection (s : State) (l : LaneId) : State :=
  let s := if (s.lane l).state = .held then s else s.enterHeld l
  let s := if (s.lane l).keptGrant then s.beginTrouble l else s
  s.takeKeptEvents l

/-- A grant kept while the direction was asked for is given back: the direction is assigned (R149, R191). -/
def State.giveBackGrant (s : State) (l : LaneId) (n : Nat) : State :=
  if (s.lane l).trouble = .admitted then
    (s.modLane l fun x => { x with trouble := .none, keptGrant := false }).giveUpAdmission n
  else s

/-- A YARD send-off is due on a visit with no hold: it begins, or on an OFFLINE link the lane places LINK_DOWN and is HELD
in its place (the offline check of R150). A sealed drop still NOT_OPENED stays so: R162 names no YARD send-off (DESIGN
CHOICE, notes/assumptions/62.md). -/
def State.sendToYard (s : State) (l : LaneId) (n : Nat) : State :=
  if (s.lane l).link.online then s.beginSendOff l .yard none
  else ((s.placeTold n .linkDown .lane).1).enterHeld l

/-- The lane acts on ASSIGNED (R143, R149): with no hold it gives up a blocked place and is due its YARD send-off; with
a hold gained meanwhile it enters HELD. Events kept are then taken by the state it is in. -/
def State.takeAssigned (s : State) (l : LaneId) (v : Visit) : State :=
  let s := s.giveBackGrant l v.number
  let s := if v.holds.isEmpty then (s.giveUpBlocked l).sendToYard l v.number else s.enterHeld l
  s.takeKeptEvents l

/-- The lane acts on the Yard Director's answer. -/
def State.takeDirection (s : State) (l : LaneId) (a : DirectionAnswer) : State :=
  let x := s.lane l
  if x.state = .checking ∨ x.state = .held then
    match x.visit.bind s.visit? with
    | none => s
    | some v => if a = .assigned then s.takeAssigned l v else s.holdAfterDirection l
  else s

/-! ### The end of a release (R147, R148) -/

/-- A release ends: CLEAR_LIMIT stops, a withdrawal is ordered, and the lane enters IDLE. -/
def State.endRelease (s : State) (l : LaneId) : State :=
  ((s.stopTimer l .clear).orderWithdrawal l).enterIdle l

/-- A tailgate: FAULT TAILGATE, and the last released visit is marked (R148). -/
def State.tailgate (s : State) (l : LaneId) : State :=
  let last := (s.lane l).lastReleased
  let s := s.enterFault l .tailgate
  match last with
  | some n => s.writeVisit n .tailgate id
  | none => s

/-! ### Input events as the lane machine takes them -/

/-- The states from IDENTIFY to RELEASING, in which the next-truck memory is kept (R133). -/
def LaneState.keepsMemory : LaneState → Bool
  | .identify => true | .checking => true | .held => true | .directed => true | .releasing => true
  | _ => false

/-- An APPROACH event (R105, R106, R133). In APPROACH it leaves alone an APPROACH OCCUPY remembered in IDENTIFY before a STOP
VACATE (DESIGN CHOICE, notes/assumptions/72.md). -/
def State.approachEvent (s : State) (l : LaneId) (occupied : Bool) : State :=
  let x := s.lane l
  match x.state with
  | .idle => if occupied then s.enterApproach l else s.modLane l fun x => { x with parkRef := some s.now }
  | .parked =>
    if occupied then (if x.wakeArmed = some true then s.enterApproach l else s)
    else s.modLane l fun x => { x with wakeArmed := some true }
  | .approach => if occupied then s else s.modLane l fun x => { x with approachRef := some s.now }
  | _ => if x.state.keepsMemory then s.modLane l fun x => { x with memApproach := occupied } else s

/-- A STOP event (R134, R133, R67). In IDENTIFY a STOP VACATE withdraws the slot request of a lane that waits for a slot,
and has no effect on one that a refused staging place has left without a visit (R134, R142). A lane that so returns to
APPROACH keeps an APPROACH OCCUPY it remembers (R133; DESIGN CHOICE, notes/assumptions/72.md). -/
def State.stopEvent (s : State) (l : LaneId) (occupied : Bool) : State :=
  let x := s.lane l
  match x.state with
  | .idle => if occupied then s.takeStop l else s
  | .approach => if occupied then s.takeStop l else s
  | .identify =>
    if !occupied ∧ x.visit.isNone ∧ l ∈ s.vt.slotWait then
      let s := (s.leaveSlotWait l).queueMsg l .resetKiosk
      s.modLane l fun x => { x with state := .approach, approachRef := some s.now }
    else s
  | .releasing => s.modLane l fun x => { x with memStop := occupied }
  | _ => s

/-- A BOOM event (R93, R147). -/
def State.boomEvent (s : State) (l : LaneId) (occupied : Bool) : State :=
  let x := s.lane l
  if x.state = .releasing then
    if occupied then (if x.boomCount ≥ 2 then s.tailgate l else s)
    else if x.exitTaken ∧ !x.reads .exit then s.endRelease l
    else s
  else s

/-- An EXIT event (R147). -/
def State.exitEvent (s : State) (l : LaneId) (occupied : Bool) : State :=
  let x := s.lane l
  if x.state = .releasing ∧ !occupied then
    let s := s.modLane l fun x => { x with exitTaken := true }
    if x.reads .boom then s else s.endRelease l
  else s

/-- A raise is in progress: RAISE_LIMIT is RUNNING for the present send-off (R98). -/
def Lane.raising (x : Lane) : Bool :=
  decide (x.state = .directed) && match x.timer .raise with
    | .running _ => true
    | _ => false

/-- A BOOM_UP event: UP completes a raise in progress; DOWN with the output ASSERTED outside FAULT is an unexpected
fall (R98, R100), also while a raise is in progress (DESIGN CHOICE, notes/assumptions/58.md). -/
def State.boomUpEvent (s : State) (l : LaneId) (isUp : Bool) : State :=
  let x := s.lane l
  if isUp then (if x.raising then (s.stopTimer l .raise).completeRaise l else s)
  else
    match x.state with
    | .fault _ => s
    | _ => if x.output = .asserted then s.enterFault l .boomJam else s

/-- A PULSE (R94). -/
def State.pulseEvent (s : State) (l : LaneId) : State :=
  s.modLane l fun x =>
    if x.axleOpen then { x with axleCount := min Config.maxCount4 (x.axleCount + 1) } else x

/-- An event of an input, as the lane machine takes it; a stopped lane withholds it (R102). -/
def State.laneEvent (s : State) (l : LaneId) (i : Input) (active : Bool) : State :=
  if (s.lane l).isStopped then s
  else
    match i with
    | .approach => s.approachEvent l active
    | .stop => s.stopEvent l active
    | .boom => s.boomEvent l active
    | .exit => s.exitEvent l active
    | .axle => s.pulseEvent l
    | .boomUp => s.boomUpEvent l active

end Sys2Proof.Machine
end

