-- ==== Sys2Proof/Machine/LaneActs.lean ====
section
/-! DEFINITION. What a lane does with driver messages (R151), timer expiries (R96), link notices (R129), a
stop-all and its end (R101 to R104, R152), closing (R131, R132) and recovery (R153). -/

namespace Sys2Proof.Machine

/-! ### Driver messages (R151) -/

/-- The lane still stands with a visit at its pedestal past identification, FAULT apart. -/
def Lane.pastIdentify (x : Lane) : Bool :=
  x.visit.isSome && (decide (x.state = .checking) || decide (x.state = .held) || decide (x.state = .directed))

/-- A BOOM_JAM with a visit. -/
def Lane.jammedWithVisit (x : Lane) : Bool := x.visit.isSome && decide (x.state = .fault .boomJam)

/-- CLERK is placed with source LANE. -/
def State.placeClerk (s : State) (n : Nat) : State := (s.placeTold n .clerk .lane).1

/-- PRESS HELP (R140, R145, R149, R151). On a YARD send-off the lane is in HELD before it offers its visit, also where
CLERK was held already or the list is full and no hold is gained (R145). From IDENTIFY a kept PEDESTAL_LIMIT expiry and a
plate that waits to be searched are dropped (R140; DESIGN CHOICE, notes/assumptions/73.md). -/
def State.pressHelp (s : State) (l : LaneId) : State :=
  let x := s.lane l
  match x.visit with
  | none => s
  | some n =>
    match x.state, x.sendOff with
    | .identify, _ =>
      let s := (s.stopTimer l .pedestal).modLane l fun x =>
        { x with pendingEntry := none, plateToSearch := false, keptExpiry := false }
      let s := s.placeClerk n
      let s := if (s.claimedRefs n).isEmpty then (s.placeTold n .noBooking .lane).1 else s
      (s.enterHeld l).offerTrouble l
    | .checking, _ => s.placeClerk n
    | .held, _ => (s.placeClerk n).offerTrouble l
    | .directed, some o =>
      match o.dest with
      | .yard =>
        let s := s.placeClerk n
        (if (s.lane l).state = .directed then s.returnToHeld l else s).offerTrouble l
      | .staging => s.placeClerk n
      | .trouble => s.placeClerk n
      | .back => s
    | .fault c, _ => if c = .boomJam then s.placeClerk n else s
    | _, _ => s

/-- PRESS CANCEL (R140, R151). -/
def State.pressCancel (s : State) (l : LaneId) : State :=
  let x := s.lane l
  match x.state, x.visit with
  | .identify, none => s.modLane l fun x => { x with pendingEntry := none }
  | .identify, some n =>
    if x.request = .none ∧ (s.claimedRefs n).isEmpty then s.beginSendOff l .back none else s
  | _, some _ => s.queuePresent l
  | _, none => s

/-- A keyed container equals the container id of a drop of the visit, of the named slot where one is named. -/
def Visit.hasDrop (v : Visit) (t : Text) (slot : Option Nat) : Bool :=
  let idx := match slot with
    | some k => (v.dropOf k).toList
    | none => v.drops
  idx.any fun i => (v.moves[i]?).any fun m => decide (m.container = some t)

/-- The states in which a lane takes every message and discards it (R151). -/
def LaneState.discards : LaneState → Bool
  | .closed => true | .parked => true | .idle => true | .approach => true | _ => false

/-- A message a lane takes and does not discard, by its state (R151). -/
def State.actMessage (s : State) (l : LaneId) (m : InMsg) : State :=
  let x := s.lane l
  let entry := fun e : Entry =>
    match x.state, x.visit with
    | .identify, none => s.modLane l fun x => { x with pendingEntry := some e }
    | .identify, some n => if (s.claimedRefs n).isEmpty then s.entryArrives l n e else s
    | _, _ => s
  match m with
  | .card t => entry (.card t)
  | .keyedRef t => entry (.ref t)
  | .sealRead t slot =>
    let who := if x.pastIdentify || x.jammedWithVisit then x.visit
      else if x.state = .releasing then x.lastReleased else none
    match who with
    | some n => (s.takeSealRead n t .pedestal slot).1
    | none => s
  | .keyedContainer t slot =>
    if x.pastIdentify then
      match x.visit.bind s.visit? with
      | some v =>
        if containerOk t && v.hasDrop t slot then s.queuePresent l else s.queuePrompt l .reenterContainer
      | none => s
    else s
  | .press .help => s.pressHelp l
  | .press .cancel => s.pressCancel l
  | .press .confirm => if x.visit.isSome then s.queuePresent l else s
  | .hello => s

/-- A message the lane takes (R151). -/
def State.laneMessage (s : State) (l : LaneId) (m : InMsg) : State :=
  if (s.lane l).state.discards then s else s.actMessage l m

/-- A lane is told ONLINE or RESTARTED (R129). -/
def State.tellOnline (s : State) (l : LaneId) : State :=
  let x := s.lane l
  if x.isStopped then s
  else
    let s := s.queuePresent l
    match x.state, x.sendOff, x.visit.bind s.visit? with
    | .directed, some o, some v =>
      match v.direction with
      | some d =>
        if o.ticket = .awaited then (s.queueTicket l).1
        else if o.dest = .back then s
        else s.queueMsg l (.direction v.number d)
      | none => s
    | _, _, _ => s

/-- A message is accepted: a KIOSK_HELLO changes the link state and is told to the lane; any other enters the
receive buffer, or sets OVERRUN, and a lane that is not stopped takes it at once (R116, R119), on an OFFLINE link too (DESIGN
CHOICE, notes/assumptions/54.md). -/
def State.acceptMsg (s : State) (l : LaneId) (m : InMsg) : State :=
  match m with
  | .hello => (s.modLink l fun k => Link.advance { k with online := true }).tellOnline l
  | _ =>
    if (s.lane l).link.rxBuf.isSome then s.setLinkFlags l { noLinkFlags with overrun := true }
    else if (s.lane l).isStopped then s.modLink l fun k => { k with rxBuf := some m }
    else s.laneMessage l m

/-! ### Timer expiries -/

/-- The expiry of a lane timer reaches the rule that started it (R99, R140, R148, R149, R156, R166). -/
def State.timerExpired (s : State) (l : LaneId) (t : TimerId) : State :=
  let s := s.stopTimer l t
  let x := s.lane l
  match t with
  | .raise => if x.state = .directed then s.enterFault l .boomJam else s
  | .pedestal =>
    match x.state, x.visit with
    | .identify, some n =>
      if x.request = .none then s.actExpiry l n else s.modLane l fun x => { x with keptExpiry := true }
    | _, _ => s
  | .hold => if x.state = .held then s.offerTrouble l else s
  | .clear => if x.state = .releasing then s.enterFault l .stalled else s
  | .sealWindow => s.closeSealWindow l
  | .damageWindow => s.checkFinal l

/-! ### Stop-all (R101 to R104) -/

/-- A stop-all is in force. -/
def StopAll.inForce (x : StopAll) : Bool := x.inputSource || x.commandSource

/-- STOP_MODE is applied to a lane (R102). -/
def State.applyStopMode (s : State) (l : LaneId) : State :=
  match s.cfg.stopMode with
  | .hold => s
  | .lowerIfClear => s.orderWithdrawal l

/-- Steps 1 to 4 of R102. A lane that was IDLE leaves it, so its parking reference is discarded (R105). -/
def Lane.stopped (x : Lane) : Lane :=
  let r : Remembered := { state := x.state, levels := x.levels, boomCount := x.boomCount }
  { x with
    remembered := some r, timers := x.timers.map Timer.suspend, state := .fault .stopped, parkRef := none }

/-- A stop-all reaches a lane. -/
def State.stopLane (s : State) (l : LaneId) : State :=
  let x := s.lane l
  if x.state = .closed then s
  else if x.isStopped then s.applyStopMode l
  else (s.modLane l Lane.stopped).applyStopMode l

/-- A stop-all begins: the gate flag STOP_ALL is set and every open lane stopped. -/
def State.beginStop (s : State) : State := allLanes.foldl State.stopLane s.flagStopAll

/-- A detection mode reports a change to a level (R86). -/
def DetectMode.reports (m : DetectMode) (active : Bool) : Bool :=
  match m with
  | .both => true
  | .rise => active
  | .fall => !active
  | _ => false

/-- One input's event at a resumption: its level differs from the snapshot and its mode reports the change; PULSEs
are lost (R103 step 4). -/
def State.resumeInput (l : LaneId) (snapshot : Vector Bool 6) (s : State) (i : Input) : State :=
  let x := s.lane l
  let level := x.filters[inputIdx i].level
  if i ≠ .axle ∧ level ≠ snapshot[inputIdx i] ∧ DetectMode.reports x.cfg.mode[inputIdx i] level then s.laneEvent l i level
  else s

/-- A kept answer is acted on (R152). -/
def State.takeKept (l : LaneId) (s : State) (a : KeptAnswer) : State :=
  match a with
  | .slotGrant => s.takeUpVisit l
  | .search r => s.takeSearch l r
  | .claim a => s.takeClaim l a
  | .direction a => s.takeDirection l a
  | .placeGrant => s.takeGrant l
  | .ticket r => s.takeTicketReport l r
  | .checksFinal => s.takeChecksFinal l
  | .redirected => s.takeRedirected l
  | .stagingFull m => s.takeStagingFull l m

/-- The lane looks at its visit's hold list as if just told of it (R152). -/
def State.lookAtHolds (s : State) (l : LaneId) : State :=
  match (s.lane l).visit.bind s.writable? with
  | some v => if v.holds.isEmpty then s.laneHoldEmptied l else s.laneHoldGained l
  | none => s

/-- A lane resumed into IDENTIFY searches its visit's plate (R137), but not where a request is still in flight, nor after that
request's answer (DESIGN CHOICE, notes/assumptions/67.md). -/
def State.searchPlate (s : State) (l : LaneId) : State :=
  let x := s.lane l
  match x.state, x.visit.bind s.visit? with
  | .identify, some v =>
    match v.plate with
    | some p => if x.request = .none ∧ v.claimed.isEmpty then s.startRequest l (.search (.plate p)) else s
    | none => s
  | _, _ => s

/-- The resumption sequence of a stopped lane (R103), then the answers and the message it kept, its hold list,
and its present prompt (R152). A lane resumed into PARKED keeps the wake arming it had, and one resumed into FAULT sets no
LANE_FAULT: neither is taken for an entry of that state (DESIGN CHOICE, notes/assumptions/40.md). A lane that the events of
step 4 have taken out of RELEASING takes no tailgate in step 5 (DESIGN CHOICE, notes/assumptions/22.md). -/
def State.resumeLane (s : State) (l : LaneId) : State :=
  match (s.lane l).remembered with
  | none => s
  | some r =>
    let s := s.modLane l fun x =>
      { x with
        state := r.state, remembered := none, timers := x.timers.map Timer.resume
        parkRef := if r.state = .idle ∨ r.state = .parked then some s.now else x.parkRef }
    let ordered := match (s.lane l).sendOff with
      | some o => o.raiseOrdered
      | none => false
    let s := if decide (r.state = .directed) && ordered then s.orderRaise l else s
    let s := allInputs.foldl (State.resumeInput l r.levels) s
    let x := s.lane l
    let s := if r.state = .releasing ∧ x.state = .releasing ∧ x.boomCount > r.boomCount ∧ x.boomCount ≥ 2 then
        s.tailgate l
      else s
    let kept := (s.lane l).keptAnswers
    let s := s.modLane l fun x => { x with keptAnswers := [] }
    let s := kept.foldl (State.takeKept l) s
    let held := (s.lane l).link.rxBuf
    let s := s.dropHeldMessage l
    let s := match held with
      | some m => s.laneMessage l m
      | none => s
    let s := (s.lookAtHolds l).searchPlate l
    if (s.lane l).link.online then s.queuePresent l else s

/-- The end of a stop-all: with RESTART AUTO each stopped lane is resumed, in ascending lane number (R103, R104; the
order is a DESIGN CHOICE, notes/assumptions/40.md). -/
def State.endStop (s : State) : State :=
  match s.cfg.restart with
  | .byCommand => s
  | .auto => allLanes.foldl (fun s l => if (s.lane l).isStopped then s.resumeLane l else s) s

/-- A stop-all source changes: the stop begins with the first source and ends with the last (R101). -/
def State.setStop (s : State) (f : StopAll → StopAll) : State :=
  let was := s.stop.inForce
  let s := { s with stop := f s.stop }
  let is := s.stop.inForce
  if is && !was then s.beginStop
  else if was && !is then s.endStop
  else s

/-! ### Closing and recovery (R131, R132, R153) -/

/-- LANE_CLOSE without FORCE, by the lane state (R131, R102). A lane in IDENTIFY with no visit is closed although it is marked
CLOSING already, by R131's table and against its last sentence (DESIGN CHOICE, notes/assumptions/65.md). -/
def State.closeLane (s : State) (l : LaneId) : State :=
  let x := s.lane l
  let mark := s.modLane l fun x => { x with closing := true }
  match x.state with
  | .closed => s
  | .idle => s.enterClosed l
  | .parked => s.enterClosed l
  | .identify => if x.visit.isNone then (s.leaveSlotWait l).enterClosed l else mark
  | .fault .stopped =>
    match x.remembered with
    | some r => if r.state = .idle ∨ r.state = .parked then s.enterClosed l else mark
    | none => mark
  | _ => mark

/-- LANE_CLOSE with FORCE on an open lane; the visit whose bookings step the command then waits for (R132). The visit
stays bound to its lane, CLOSED by now, until step 3 of the ending sequence (R72; notes/assumptions/13.md); one that is
ending already is turned back by no second sequence. -/
def State.forceClose (s : State) (l : LaneId) : State × Option Nat :=
  let s := s.modLane l fun x => { x with request := .none, keptAnswers := [] }
  let s := (s.leaveSlotWait l).giveUpBlocked l
  let bound := (s.lane l).visit
  let ends := (bound.bind s.writable?).map (·.number)
  let s := match ends with
    | some n => s.beginEnding n .turnBack
    | none => s
  let s := ((s.orderWithdrawal l).queueMsg l .resetKiosk).enterClosed l
  (s.modLane l fun x => { x with visit := bound }, ends)

/-- The loops of a list all read clear, and the output is WITHDRAWN. -/
def Lane.clearOf (x : Lane) (loops : List Input) : Bool :=
  loops.all (fun i => !x.reads i) && decide (x.output = .withdrawn)

/-- A lane recovers from a BOOM_JAM with a visit: HELD on a YARD send-off with a hold, the same send-off anew
otherwise (R153), a YARD one after the offline check (R150). A TROUBLE one whose hold list emptied in the fault begins anew
too (DESIGN CHOICE, notes/assumptions/12.md). -/
def State.recoverJam (s : State) (l : LaneId) (n : Nat) : State :=
  match (s.lane l).sendOff with
  | none => s.enterHeld l
  | some o =>
    let held := match s.visit? n with
      | some v => !v.holds.isEmpty
      | none => false
    if o.dest ≠ .yard then s.beginSendOff l o.dest o.minute
    else if held then s.enterHeld l
    else s.sendToYard l n

/-- LANE_RECOVER, by the lane: the state after it, or none where it is refused WRONG_STATE (R104, R153). -/
def State.recoverLane (s : State) (l : LaneId) : Option State :=
  let x := s.lane l
  match x.state with
  | .fault .stopped => if s.stop.inForce then none else some (s.resumeLane l)
  | .fault c =>
    match x.visit with
    | some n =>
      if c = .boomJam ∧ x.clearOf [.boom, .exit] then some (s.recoverJam l n) else none
    | none =>
      if x.clearOf [.approach, .stop, .boom, .exit] then some (s.enterIdle l) else none
  | _ => none

end Sys2Proof.Machine
end

