-- ==== Sys2Proof/Machine/Port.lean ====
section
/-! DEFINITION. The Control Port's flow (R200, R201): a well-formed frame of a known command is discarded,
answered BUSY or PORT_FAULT, or taken; a command of the Book Engine's control-port class waits for its grant
(R24); a command that waits for retirements completes when none is held. Payload items common to many answers
stand here too. -/

namespace Sys2Proof.Machine

/-- Every place of the response queue is occupied or reserved (R201). -/
def State.portFull (s : State) : Bool := decide (s.placesTaken ≥ Config.responsePlaces)

/-- A frame whose command is not taken gets its answer at once, or is lost with no place for one (R201). -/
def State.answerAtOnce (s : State) (tag : Byte) (st : Status) : State :=
  if s.portFull then s.flagPortFault .responseLost else s.respond tag st []

/-- The command is taken and becomes the command in progress. -/
def State.take (s : State) (tag : Byte) (cmd : Instr) : State :=
  let p : InProgress := { tag, cmd, phase := .waiting }
  { s with cp := { s.cp with inProgress := some p } }

/-- A command in progress is this very command, taken and not yet served. -/
def State.awaits (s : State) (cmd : Instr) : Bool :=
  match s.cp.inProgress with
  | some p => decide (p.phase = .waiting) && decide (p.cmd = cmd)
  | none => false

/-- The flow of one command (R200): `ready` says when its owner serves it, `serve` is the service. The row of a
command that waits for its grant, given again, is the moment its turn comes round (notes/assumptions/3.md). -/
def State.portCommand (s : State) (tag : Byte) (cmd : Instr) (changing : Bool) (ready : State → Bool)
    (serve : State → State) : State :=
  if s.awaits cmd then (if ready s then serve s else s)
  else if s.portFull then s.flagPortFault .responseLost
  else if s.cp.inProgress.isSome then s.respond tag .busy []
  else if changing && s.cp.flags.portFault then s.respond tag .portFault []
  else
    let s := s.take tag cmd
    if ready s then serve s else s

/-- A command served as soon as it is taken. -/
def State.plainCommand (s : State) (tag : Byte) (cmd : Instr) (changing : Bool) (serve : State → State) :
    State :=
  s.portCommand tag cmd changing (fun _ => true) serve

/-- A command of the Book Engine's control-port class: served at its grant, which is recorded (R24). -/
def State.engineCommand (s : State) (tag : Byte) (cmd : Instr) (changing : Bool) (serve : State → State) :
    State :=
  s.portCommand tag cmd changing (fun s => decide (s.nextGrant = .port)) fun s => serve s.servePort

/-- The forward work of TIME_SYNC begins, or is done at once where the minute is reached already (R9). That a sync out
of LOST sets its target here, after the retirements it waits for, is the model's choice (notes/assumptions/23.md). -/
def State.beginForward (s : State) (m : Nat) : State :=
  if m ≤ s.now then ({ s with tb := { s.tb with lead := 0, target := none } }).complete .ok
  else ({ s with tb := { s.tb with lead := 0, target := some m } }).setPhase .catchUp

/-- The lead of a backward sync takes effect (R10). -/
def State.applyLead (s : State) (n : Nat) : State :=
  ({ s with tb := { s.tb with lead := n } }).complete .ok

/-- A retirement is held for a window that starts at or before `last`: of the retirements a command made due, all those of
windows up to that start, some are still to be served (R6: they go in ring order). -/
def State.waitsFor (s : State) (last : Option Nat) : Bool :=
  s.retirementHeld && last.any fun n => s.be.ring.head?.any fun w => decide (w.start ≤ n)

/-- A command in progress that waits for retirements goes on when those it made due have been served (R7, R11, R62). Where
the clock becomes LOST in the wait and so withdraws them, the command is answered all the same (DESIGN CHOICE,
notes/assumptions/44.md). -/
def State.settlePort (s : State) : State :=
  match s.cp.inProgress with
  | some p =>
    match p.phase with
    | .retiring st last => if s.waitsFor last then s else s.complete st
    | .recoverForward m last => if s.waitsFor last then s else s.beginForward m
    | .recoverBackward n last => if s.waitsFor last then s else s.applyLead n
    | _ => s
  | none => s

/-! ### Payload items (R207) -/

/-- A yes or no, or a presence mark (DESIGN CHOICE, notes/assumptions/57.md). -/
def flagField (b : Bool) : Field := .byte (if b then 1 else 0)

/-- An optional item: its presence byte, then the item. -/
def optField {α : Type} (f : α → List Field) : Option α → List Field
  | some a => .present :: f a
  | none => [.absent]

/-- A list: its count byte, then its items (DESIGN CHOICE, notes/assumptions/57.md). -/
def listField {α : Type} (f : α → List Field) (l : List α) : List Field :=
  .byte l.length :: l.flatMap f

/-- The place of a clock state in its list (1.1). -/
def clockByte : ClockState → Nat
  | .unset => 0 | .locked => 1 | .holdover => 2 | .lost => 3

/-- The place of a hold reason in the table of R75. -/
def reasonByte : HoldReason → Nat
  | .noBooking => 0 | .carrier => 1 | .driver => 2 | .noSlot => 3 | .badSeal => 4 | .damage => 5
  | .axleCheck => 6 | .noYard => 7 | .withdrawn => 8 | .clerk => 9 | .linkDown => 10 | .timeout => 11

/-- A code for a hold's source, the four standing in no one list: LANE, HOST, DESK, SYSTEM (DESIGN CHOICE,
notes/assumptions/57.md). -/
def sourceByte : HoldSource → Nat
  | .lane => 0 | .host => 1 | .desk => 2 | .system => 3

/-- The place of a stage in 4.1's list. -/
def stageByte : Stage → Nat
  | .atLane => 0 | .staged => 1 | .queued => 2 | .atDesk => 3 | .released => 4 | .closed => 5

/-- The place of a standing in R59's list. -/
def standingByte : Standing → Nat
  | .unjudged => 0 | .onTime => 1 | .lateGrace => 2 | .earlyPulled => 3 | .earlyStaged => 4
  | .lateAbsorbed => 5 | .lateUnplaced => 6 | .deferred => 7

/-- The place of a booking state in 2.1's list. -/
def bookingStateByte : BookingState → Nat
  | .opened => 0 | .arrived => 1 | .admitted => 2 | .consumed => 3 | .cancelled => 4 | .lapsed => 5

/-- The place of a pool: GENERAL, RESERVE. -/
def poolByte : Pool → Nat
  | .general => 0 | .reserve => 1

/-- The place of a special in 2.1's list. -/
def specialByte : Special → Nat
  | .plain => 0 | .reefer => 1 | .hazard => 2 | .reeferHazard => 3

/-- The place of a move state: PENDING, DIRECTED, DONE, CANCELLED. -/
def moveStateByte : MoveState → Nat
  | .pending => 0 | .directed => 1 | .done => 2 | .cancelled => 3

/-- The place of a block kind in 9.1's list. -/
def blockKindByte : BlockKind → Nat
  | .stackExport => 0 | .stackEmpty => 1 | .deliveryImport => 2 | .emptyIssue => 3 | .inspection => 4
  | .reefer => 5 | .hazard => 6

/-- A count of refusal or mark given by its place in a list the entry gives. -/
def markField (n : Nat) : List Field := [.byte n]

/-- The stops of a direction, or a pseudo-stop, as R207 lays out the form byte and the body. -/
def directionFields : Direction → List Field
  | .stops l =>
    .byte l.length :: l.flatMap fun p =>
      [.byte p.block.val, .byte p.route, .chars p.label] ++ listField
        (fun m : MoveKind × Option Text =>
          .byte (moveKindByte m.1) :: optField (fun t => [.chars t]) m.2) p.moves
  | .staging m => [.byte 5, .minute m]
  | .trouble => [.byte 6]

/-- A hold as VISIT_READ and DESK_TAKE carry it, its source by the model's code (DESIGN CHOICE, notes/assumptions/57.md). -/
def holdFields (h : Hold) : List Field :=
  [.byte (reasonByte h.reason), .byte (sourceByte h.source), .minute h.placed]

/-- A signed offset: a sign byte, 1 for below zero, then its size (DESIGN CHOICE, notes/assumptions/57.md). -/
def offsetFields (d : Int) : List Field := [flagField (decide (d < 0)), .minute d.natAbs]

end Sys2Proof.Machine
end

