-- ==== Sys2Proof/Machine/Book.lean ====
section
/-! DEFINITION. The book commands and CARRIER_SET (2.3, 2.7). -/

namespace Sys2Proof.Machine

/-! ### BOOK_ADD (R29, R30) -/

/-- The first refusal of a new booking against the book, in the order of R30. -/
def State.addRefusal (s : State) (b : NewBooking) : Option Status :=
  if (s.booking? b.ref).isSome then some .duplicate
  else
    match s.carrier? b.carrier with
    | none => some .notFound
    | some .suspended => some .wrongState
    | some .active =>
      match s.windowOf b.tag with
      | none => some .notFound
      | some w =>
        if s.due w then some .wrongState
        else if !w.hasRoom b.pool then some .noRoom
        else if s.be.book.length ≥ Config.bookSize then some .full
        else none

/-- BOOK_ADD served. -/
def State.serveBookAdd (s : State) (b : NewBooking) : State :=
  if !refForm b.ref then s.complete .badValue
  else
    match bookingForm b.plate b.card b.pool b.special b.moves b.preferred with
    | some st => s.complete st
    | none =>
      match s.addRefusal b with
      | some st => s.complete st
      | none =>
        let recL := ((s.windowOf b.tag).map (·.length)).getD 0
        let k : Booking :=
          { ref := b.ref, carrier := b.carrier, plate := b.plate, card := b.card, tag := b.tag, pool := b.pool
            recL, special := b.special, moves := b.moves, preferred := b.preferred, state := .opened
            flags := { absorbed := false, pulled := false, withdrawn := false, incomplete := false }
            claimant := none }
        let s := { s with be := { s.be with book := s.be.book ++ [k] } }
        (s.modWindow b.tag (·.charge b.pool)).complete .ok

/-- BOOK_ADD as the port takes it. -/
def State.doBookAdd (s : State) (tag : Byte) (b : NewBooking) : State :=
  s.engineCommand tag (.bookAdd tag b) true fun s => s.serveBookAdd b

/-- BOOK_ADD (R29). -/
def execBookAdd (tag : Byte) (b : NewBooking) (s : State) : Host.Outcome State Fault Refusal :=
  .next (s.doBookAdd tag b)

/-! ### BOOK_AMEND (R31, R32) -/

/-- An amendable text after an amendment. -/
def Amend.apply (a : Amend) (old : Option Text) : Option Text :=
  match a with
  | .keep => old
  | .clear => none
  | .put t => some t

/-- The preferred block after an amendment. -/
def AmendBlock.apply (a : AmendBlock) (old : Option Nat) : Option Nat :=
  match a with
  | .keep => old
  | .clear => none
  | .put n => some n

/-- The refusal of a charge moved to a window and pool (R32). -/
def State.moveRefusal (s : State) (tag : Nat) (p : Pool) : Option Status :=
  match s.windowOf tag with
  | none => some .notFound
  | some w =>
    if s.due w then some .wrongState
    else if !w.hasRoom p then some .noRoom
    else none

/-- BOOK_AMEND served (R31). The checks of form and of special and pool are taken in R29's order, so an amendment that fails
both the container check and the pair of NONE and RESERVE is BAD_VALUE (DESIGN CHOICE, notes/assumptions/53.md). -/
def State.serveBookAmend (s : State) (ref : Text) (a : Amendment) : State :=
  match s.booking? ref with
  | none => s.complete .notFound
  | some b =>
    if b.state ≠ .opened then s.complete .wrongState
    else
      let plate := Amend.apply a.plate b.plate
      let card := Amend.apply a.card b.card
      let tag := a.tag.getD b.tag
      let pool := a.pool.getD b.pool
      let special := a.special.getD b.special
      let moves := a.moves.getD b.moves
      let preferred := AmendBlock.apply a.preferred b.preferred
      match bookingForm plate card pool special moves preferred with
      | some st => s.complete st
      | none =>
        let moved := decide (tag ≠ b.tag ∨ pool ≠ b.pool)
        match if moved then s.moveRefusal tag pool else none with
        | some st => s.complete st
        | none =>
          let s := match s.windowOf tag with
            | some w => if moved then s.moveCharge ref w pool else s
            | none => s
          (s.modBooking ref fun b => { b with plate, card, special, moves, preferred }).complete .ok

/-- BOOK_AMEND as the port takes it. -/
def State.doBookAmend (s : State) (tag : Byte) (ref : Text) (a : Amendment) : State :=
  s.engineCommand tag (.bookAmend tag ref a) true fun s => s.serveBookAmend ref a

/-- BOOK_AMEND (R31). -/
def execBookAmend (tag : Byte) (ref : Text) (a : Amendment) (s : State) : Host.Outcome State Fault Refusal :=
  .next (s.doBookAmend tag ref a)

/-! ### BOOK_CANCEL and BOOK_REINSTATE (R33, R34) -/

/-- The withdrawal of a claimed booking, made as one step (R33). -/
def State.withdrawBooking (s : State) (ref : Text) (n : Nat) : State :=
  let (s, a) := s.placeTold n .withdrawn .system
  match a with
  | .full => s.complete .full
  | .wrongState => s.complete .wrongState
  | _ =>
    (s.modBooking ref fun b => { b with flags := { b.flags with withdrawn := true } }).complete .ok

/-- BOOK_CANCEL served. -/
def State.serveBookCancel (s : State) (ref : Text) : State :=
  match s.booking? ref with
  | none => s.complete .notFound
  | some b =>
    match b.state with
    | .opened => ((s.returnCharge b).modBooking ref fun b => { b with state := .cancelled }).complete .ok
    | .lapsed => (s.modBooking ref fun b => { b with state := .cancelled }).complete .ok
    | .arrived =>
      match b.claimant.bind s.live? with
      | none => s.complete .wrongState
      | some v =>
        if v.stage = .released then s.complete .wrongState
        else if b.flags.withdrawn then s.complete .ok
        else s.withdrawBooking ref v.number
    | _ => s.complete .wrongState

/-- BOOK_CANCEL as the port takes it. -/
def State.doBookCancel (s : State) (tag : Byte) (ref : Text) : State :=
  s.engineCommand tag (.bookCancel tag ref) true fun s => s.serveBookCancel ref

/-- BOOK_CANCEL (R33). -/
def execBookCancel (tag : Byte) (ref : Text) (s : State) : Host.Outcome State Fault Refusal :=
  .next (s.doBookCancel tag ref)

/-- The visit claims a booking flagged WITHDRAWN. -/
def State.claimsWithdrawn (s : State) (n : Nat) : Bool :=
  (s.claimedRefs n).any fun r => (s.booking? r).any fun b => b.flags.withdrawn

/-- BOOK_REINSTATE served. -/
def State.serveBookReinstate (s : State) (ref : Text) : State :=
  match s.booking? ref with
  | none => s.complete .notFound
  | some b =>
    if b.state = .arrived ∧ b.flags.withdrawn then
      let s := s.modBooking ref fun b => { b with flags := { b.flags with withdrawn := false } }
      match b.claimant with
      | none => s.complete .ok
      | some n =>
        if s.claimsWithdrawn n then s.complete .ok else (s.releaseTold n .withdrawn).1.complete .ok
    else s.complete .wrongState

/-- BOOK_REINSTATE as the port takes it. -/
def State.doBookReinstate (s : State) (tag : Byte) (ref : Text) : State :=
  s.engineCommand tag (.bookReinstate tag ref) true fun s => s.serveBookReinstate ref

/-- BOOK_REINSTATE (R34). -/
def execBookReinstate (tag : Byte) (ref : Text) (s : State) : Host.Outcome State Fault Refusal :=
  .next (s.doBookReinstate tag ref)

/-! ### BOOK_FIND (R35) -/

/-- A move of a booking. -/
def BookMove.fields (m : BookMove) : List Field :=
  .byte (moveKindByte m.kind) :: optField (fun t => [.chars t]) m.container
    ++ optField (fun t => [.chars t]) m.release ++ optField (fun n => [.byte n]) m.size
    ++ listField (fun t => [.chars t]) m.seals

/-- The flags of a booking as one byte: ABSORBED, PULLED, WITHDRAWN, INCOMPLETE from bit 0 (DESIGN CHOICE,
notes/assumptions/57.md). -/
def BookingFlags.toByte (f : BookingFlags) : Nat :=
  (if f.absorbed then 1 else 0) + (if f.pulled then 2 else 0) + (if f.withdrawn then 4 else 0)
    + (if f.incomplete then 8 else 0)

/-- The whole booking record in 2.1's order. -/
def Booking.fields (b : Booking) : List Field :=
  [.chars b.ref, .chars b.carrier] ++ optField (fun t => [.chars t]) b.plate
    ++ optField (fun t => [.chars t]) b.card
    ++ [.minute b.tag, .byte (poolByte b.pool), .byte b.recL, .byte (specialByte b.special)]
    ++ listField (fun m => BookMove.fields m) b.moves ++ optField (fun n => [.byte n]) b.preferred
    ++ [.byte (bookingStateByte b.state), .byte b.flags.toByte] ++ optField (fun n => [.word n]) b.claimant

/-- BOOK_FIND served: by ref the record, by plate or card the count and the first 8 in book order. -/
def State.serveBookFind (s : State) (key : FindKey) : State :=
  let several := fun p : Booking → Bool =>
    let hits := s.be.book.filter p
    if hits.isEmpty then s.complete .notFound
    else s.complete .ok (.word hits.length :: listField (fun b : Booking =>
      [.chars b.ref, .byte (bookingStateByte b.state), .minute b.tag] ++ optField (fun n => [.word n]) b.claimant)
      (hits.take 8))
  match key with
  | .ref r =>
    match s.booking? r with
    | some b => s.complete .ok b.fields
    | none => s.complete .notFound
  | .plate t => several fun b => decide (b.plate = some t)
  | .card t => several fun b => decide (b.card = some t)

/-- BOOK_FIND as the port takes it. -/
def State.doBookFind (s : State) (tag : Byte) (key : FindKey) : State :=
  s.engineCommand tag (.bookFind tag key) false fun s => s.serveBookFind key

/-- BOOK_FIND (R35). -/
def execBookFind (tag : Byte) (key : FindKey) (s : State) : Host.Outcome State Fault Refusal :=
  .next (s.doBookFind tag key)

/-! ### BOOK_PURGE (R36) -/

/-- A state in which a booking may be freed. -/
def BookingState.finished : BookingState → Bool
  | .cancelled => true | .lapsed => true | .consumed => true | _ => false

/-- Bookings are freed, a charge still held returned. -/
def State.purge (s : State) (p : Booking → Bool) : State :=
  let gone := s.be.book.filter p
  let s := gone.foldl State.returnCharge s
  { s with be := { s.be with book := s.be.book.filter fun b => !p b } }

/-- BOOK_PURGE served. -/
def State.serveBookPurge (s : State) (form : PurgeForm) : State :=
  match form with
  | .ref r =>
    match s.booking? r with
    | none => s.complete .notFound
    | some b =>
      if b.state.finished then (s.purge fun k => decide (k.ref = r)).complete .ok
      else s.complete .wrongState
  | .minute m =>
    let p := fun b : Booking => b.state.finished && decide (b.tag < m)
    (s.purge p).complete .ok [.word (s.be.book.countP p)]

/-- BOOK_PURGE as the port takes it. -/
def State.doBookPurge (s : State) (tag : Byte) (form : PurgeForm) : State :=
  s.engineCommand tag (.bookPurge tag form) true fun s => s.serveBookPurge form

/-- BOOK_PURGE (R36). -/
def execBookPurge (tag : Byte) (form : PurgeForm) (s : State) : Host.Outcome State Fault Refusal :=
  .next (s.doBookPurge tag form)

/-! ### CARRIER_SET (R19 to R21) -/

/-- The claimant visits of a carrier's ARRIVED bookings, in book order, each once. -/
def State.carrierVisits (s : State) (code : Text) : List Nat :=
  (s.be.book.foldl (fun acc b =>
    match decide (b.carrier = code ∧ b.state = .arrived), b.claimant with
    | true, some n => if n ∈ acc then acc else n :: acc
    | _, _ => acc) ([] : List Nat)).reverse

/-- A carrier's state is written. -/
def State.setCarrier (s : State) (code : Text) (st : CarrierState) : State :=
  { s with be := { s.be with
    carriers := s.be.carriers.map fun c => if c.code = code then { c with state := st } else c } }

/-- One placement of a suspension, counted as placed or refused (R20). One answered REPLACED or DISPLACED counts as placed
(DESIGN CHOICE, notes/assumptions/70.md). -/
def State.suspendVisit (acc : State × Nat × Nat) (n : Nat) : State × Nat × Nat :=
  let (s, placed, refused) := acc
  match s.placeTold n .carrier .system with
  | (s, .wrongState) => (s, placed, refused)
  | (s, .full) => (s, placed, refused + 1)
  | (s, _) => (s, placed + 1, refused)

/-- The visit claims a booking of a carrier that is SUSPENDED. -/
def State.claimsSuspended (s : State) (n : Nat) : Bool :=
  (s.claimedRefs n).any fun r => (s.booking? r).any fun b => decide (s.carrierOf b = .suspended)

/-- One release of a reactivation (R21). -/
def State.reactivateVisit (acc : State × Nat) (n : Nat) : State × Nat :=
  let (s, count) := acc
  match s.writable? n with
  | none => acc
  | some v =>
    if !v.holdsReason .carrier || s.claimsSuspended n then acc
    else ((s.releaseTold n .carrier).1, count + 1)

/-- CARRIER_SET served. -/
def State.serveCarrierSet (s : State) (code : Text) (action : CarrierAction) : State :=
  let create := fun st : CarrierState =>
    if s.be.carriers.length ≥ Config.carrierSize then s.complete .full
    else
      let c : Carrier := { code, state := st }
      ({ s with be := { s.be with carriers := s.be.carriers ++ [c] } }).complete .ok
  if !carrierForm code then s.complete .badValue
  else
    match s.carrier? code, action with
    | none, .active => create .active
    | none, .suspended => create .suspended
    | none, .remove => s.complete .notFound
    | some .active, .active => s.complete .ok
    | some .suspended, .suspended => s.complete .ok
    | some .active, .suspended =>
      let s := s.setCarrier code .suspended
      let (s, placed, refused) := (s.carrierVisits code).foldl State.suspendVisit (s, 0, 0)
      s.complete .ok [.byte placed, .byte refused]
    | some .suspended, .active =>
      let s := s.setCarrier code .active
      let (s, count) := (s.carrierVisits code).foldl State.reactivateVisit (s, 0)
      s.complete .ok [.byte count]
    | some _, .remove =>
      if s.be.book.any fun b => decide (b.carrier = code) then s.complete .wrongState
      else
        ({ s with be := { s.be with
          carriers := s.be.carriers.filter fun c => decide (c.code ≠ code) } }).complete .ok

/-- CARRIER_SET as the port takes it. -/
def State.doCarrierSet (s : State) (tag : Byte) (code : Text) (action : CarrierAction) : State :=
  s.engineCommand tag (.carrierSet tag code action) true fun s => s.serveCarrierSet code action

/-- CARRIER_SET (R19). -/
def execCarrierSet (tag : Byte) (code : Text) (action : CarrierAction) (s : State) :
    Host.Outcome State Fault Refusal :=
  .next (s.doCarrierSet tag code action)

end Sys2Proof.Machine
end

