-- ==== Sys2Proof/Machine/BookEngine.lean ====
section
/-! DEFINITION. The Book Engine's lane requests and the requests that end a path (2.5, 2.6): BOOK_SEARCH, CLAIM,
ADMISSION, ENDING_BOOKINGS. Each is the grant of R24 to the requester whose request it is; with another request
next, or none waiting, nothing is served. -/

namespace Sys2Proof.Machine

/-- The next grant goes to a lane that owes no request: its request in flight is served. -/
def State.nextFlight (s : State) : Option (LaneId × Flight) :=
  match s.nextGrant with
  | .lane l => if (s.lane l).owed.isEmpty then some (l, (s.lane l).request) else none
  | _ => none

/-- The answer to a lane's request is acted on, or kept by a stopped lane (R152). -/
def State.answerLane (s : State) (l : LaneId) (a : KeptAnswer) : State :=
  let s := s.modLane l fun x => { x with request := .none }
  if (s.lane l).isStopped then s.keepAnswer l a else State.takeKept l s a

/-- BOOK_SEARCH (R26): the search of the lane whose turn it is. -/
def execBookSearch (s : State) : Host.Outcome State Fault Refusal :=
  match s.nextFlight with
  | some (l, .search k) => .next ((s.serveLane l).answerLane l (.search (s.search k)))
  | _ => .next s

/-- CLAIM (R27): the claim of the lane whose turn it is. -/
def execClaim (s : State) : Host.Outcome State Fault Refusal :=
  match s.nextFlight with
  | some (l, .claim refs) =>
    let s := s.serveLane l
    match (s.lane l).visit.bind s.writable? with
    | none => .next (s.modLane l fun x => { x with request := .none })
    | some v =>
      let (s, a) := s.serveClaim l v.number refs
      .next (s.answerLane l (.claim a))
  | _ => .next s

/-- The head of a lane's owed requests has been served. -/
def State.payOwed (s : State) (l : LaneId) : State := s.modLane l fun x => { x with owed := x.owed.tail }

/-- ADMISSION (R28): the bookings of a visit past its release point are admitted, for a lane or for DESK_SEND, whose
answer finds its desk FREE (R193, R196). -/
def execAdmission (s : State) : Host.Outcome State Fault Refusal :=
  match s.nextGrant with
  | .port =>
    match s.cp.inProgress.map InProgress.phase with
    | some (Phase.admitting n) => .next ((s.servePort.admitBookings n).complete .ok [.absent])
    | _ => .next s
  | .lane l =>
    match (s.lane l).owed with
    | .admission n :: _ => .next (((s.serveLane l).payOwed l).admitBookings n)
    | _ => .next s
  | _ => .next s

/-- The count of a visit's moves that are not DONE (R74). -/
def Visit.notDone (v : Visit) : Nat := v.moves.countP fun m => decide (m.state ≠ .done)

/-- The answer of the command whose ending sequence is complete: VISIT_CLOSE the count of moves not DONE (R74);
DESK_TURN_BACK the desk, FREE by then, and the state each booking took (R193, R197). -/
def State.endingFields (cmd : Instr) (before after : State) (n : Nat) : List Field :=
  match cmd with
  | .visitClose .. => [.byte (((before.visit? n).map Visit.notDone).getD 0)]
  | .deskTurnBack .. =>
    .absent :: listField (fun ref : Text =>
      [.chars ref, .byte (((after.booking? ref).map fun b => bookingStateByte b.state).getD 0)])
      (before.claimedRefs n)
  | _ => []

/-- The bookings step of an ending sequence, and the steps after it (R28, R72). -/
def State.serveEnding (s : State) (n : Nat) (k : EndKind) : State := (s.endBookings n k).finishEnding n

/-- The abandon of a refused staging place has let the lane go: its RESERVE is answered FULL (R142, R80). -/
def State.answerReserve (s : State) (l : LaneId) (k : EndKind) : State :=
  match k, (s.lane l).request with
  | .abandon, .reserve m => s.answerLane l (.stagingFull m)
  | _, _ => s

/-- ENDING_BOOKINGS (R28): the bookings step of an ending sequence, for a lane or for the command in progress; the
sequence goes on to its place and close steps (R72). -/
def execEndingBookings (s : State) : Host.Outcome State Fault Refusal :=
  match s.nextGrant with
  | .port =>
    match s.cp.inProgress with
    | some p =>
      match p.phase with
      | .ending n k =>
        let t := s.servePort.serveEnding n k
        .next (t.complete .ok (State.endingFields p.cmd s t n))
      | _ => .next s
    | none => .next s
  | .lane l =>
    match (s.lane l).owed with
    | .ending n k :: _ => .next ((((s.serveLane l).payOwed l).serveEnding n k).answerReserve l k)
    | _ => .next s
  | _ => .next s

end Sys2Proof.Machine
end

