-- ==== Sys2Proof/Machine/Visits.lean ====
section
/-! DEFINITION. The visit and hold commands (chapter 4): HOLD_PLACE, HOLD_RELEASE, VISIT_CLOSE, TAKE_CHANGED,
VISIT_READ. -/

namespace Sys2Proof.Machine

/-! ### Holds (R78, R79) -/

/-- The desk is given and does not serve this visit. -/
def State.wrongDesk (s : State) (desk : Option Nat) (n : Nat) : Bool :=
  match desk.bind deskOf with
  | some d =>
    match s.td.desks[d] with
    | .serving v _ _ => decide (v ≠ n)
    | .free => true
  | none => false

/-- The desk operand is absent or from 1 to 4. -/
def deskForm (desk : Option Nat) : Bool := optForm (inRange 1 4) desk

/-- HOLD_PLACE served. The marks are 0 none, 1 replaced, 2 displaced (DESIGN CHOICE, notes/assumptions/21.md). -/
def State.serveHoldPlace (s : State) (n : Nat) (r : HoldReason) (desk : Option Nat) : State :=
  if !deskForm desk || decide (r = .noYard) || decide (r = .withdrawn) then s.complete .badValue
  else if (s.live? n).isNone then s.complete .notFound
  else if s.wrongDesk desk n then s.complete .wrongState
  else
    let (s, a) := s.placeTold n r (if desk.isSome then .desk else .host)
    match a with
    | .placed => s.complete .ok (markField 0)
    | .replaced => s.complete .ok (markField 1)
    | .displaced => s.complete .ok (markField 2)
    | .full => s.complete .full
    | .wrongState => s.complete .wrongState

/-- HOLD_PLACE as the port takes it. -/
def State.doHoldPlace (s : State) (tag : Byte) (n : Nat) (r : HoldReason) (desk : Option Nat) : State :=
  s.plainCommand tag (.holdPlace tag n r desk) true fun s => s.serveHoldPlace n r desk

/-- HOLD_PLACE (R78). -/
def execHoldPlace (tag : Byte) (n : Nat) (r : HoldReason) (desk : Option Nat) (s : State) :
    Host.Outcome State Fault Refusal :=
  .next (s.doHoldPlace tag n r desk)

/-- HOLD_RELEASE served. NOT_FOUND carries mark 0 for an unknown visit and 1 for a reason not in its list (DESIGN CHOICE,
notes/assumptions/21.md); OK carries the substituted mark. The WRONG_STATE of NO_YARD and WITHDRAWN stands after the checks of the visit and the desk
(DESIGN CHOICE, notes/assumptions/45.md). -/
def State.serveHoldRelease (s : State) (n : Nat) (r : HoldReason) (desk : Option Nat) : State :=
  if !deskForm desk then s.complete .badValue
  else
    match s.live? n with
    | none => s.complete .notFound (markField 0)
    | some v =>
      if s.wrongDesk desk n then s.complete .wrongState
      else if r = .noYard ∨ r = .withdrawn then s.complete .wrongState
      else if v.ending.isSome then s.complete .wrongState
      else if !v.holdsReason r then s.complete .notFound (markField 1)
      else
        let (s, subst) := s.releaseTold n r
        s.complete .ok [flagField subst]

/-- HOLD_RELEASE as the port takes it. -/
def State.doHoldRelease (s : State) (tag : Byte) (n : Nat) (r : HoldReason) (desk : Option Nat) : State :=
  s.plainCommand tag (.holdRelease tag n r desk) true fun s => s.serveHoldRelease n r desk

/-- HOLD_RELEASE (R79). -/
def execHoldRelease (tag : Byte) (n : Nat) (r : HoldReason) (desk : Option Nat) (s : State) :
    Host.Outcome State Fault Refusal :=
  .next (s.doHoldRelease tag n r desk)

/-! ### VISIT_CLOSE (R74) -/

/-- VISIT_CLOSE served: step 1 of the ending sequence is taken, and the command waits for the bookings step. -/
def State.serveVisitClose (s : State) (n : Nat) : State :=
  match s.live? n with
  | none => s.complete .notFound
  | some v =>
    if v.stage ≠ .released ∨ v.ending.isSome then s.complete .wrongState
    else (s.beginEnding n .close).setPhase (.ending n .close)

/-- VISIT_CLOSE as the port takes it. -/
def State.doVisitClose (s : State) (tag : Byte) (n : Nat) : State :=
  s.plainCommand tag (.visitClose tag n) true fun s => s.serveVisitClose n

/-- VISIT_CLOSE (R74). -/
def execVisitClose (tag : Byte) (n : Nat) (s : State) : Host.Outcome State Fault Refusal :=
  .next (s.doVisitClose tag n)

/-! ### TAKE_CHANGED (R83) -/

/-- The causes as a list of their places in R82's table. -/
def causeFields (l : List Cause) : List Field := listField (fun c => [.byte (causeIdx c)]) l

/-- The count of a visit's moves in a state. -/
def Visit.movesIn (v : Visit) (st : MoveState) : Field := .byte (v.moves.countP fun m => decide (m.state = st))

/-- What TAKE_CHANGED returns of a visit. -/
def Visit.changedFields (v : Visit) : List Field :=
  if v.stage = .closed then .word v.number :: causeFields v.causes ++ [.byte (stageByte .closed)]
  else
    .word v.number :: causeFields v.causes ++ [.byte (stageByte v.stage)]
      ++ optField (fun l => [.byte (laneNumber l)]) v.lane
      ++ optField (fun d => [.byte (deskNumber d)]) v.desk
      ++ [.byte v.holds.length, v.movesIn .pending, v.movesIn .directed, v.movesIn .done, v.movesIn .cancelled]

/-- TAKE_CHANGED served: the head leaves the set; a CLOSED visit's slot becomes available and is granted to a
waiting lane (R83, R68). -/
def State.serveTakeChanged (s : State) : State :=
  match s.vt.changed with
  | [] => s.complete .empty
  | n :: rest =>
    let s := { s with vt := { s.vt with changed := rest } }
    match s.visit? n with
    | none => s.complete .empty
    | some v =>
      if v.stage = .closed then
        let s := { s with vt := { s.vt with visits := s.vt.visits.filter fun w => decide (w.number ≠ n) } }
        s.grantSlotWait.complete .ok v.changedFields
      else (s.modVisit n fun v => { v with causes := [] }).complete .ok v.changedFields

/-- TAKE_CHANGED as the port takes it. -/
def State.doTakeChanged (s : State) (tag : Byte) : State :=
  s.plainCommand tag (.takeChanged tag) false State.serveTakeChanged

/-- TAKE_CHANGED (R83). -/
def execTakeChanged (tag : Byte) (s : State) : Host.Outcome State Fault Refusal := .next (s.doTakeChanged tag)

/-! ### VISIT_READ (R84, R171) -/

/-- The place of a read's phase: PRE_WINDOW, IN_WINDOW, LATE, AFTER_RELEASE. -/
def readPhaseByte : ReadPhase → Nat
  | .preWindow => 0 | .inWindow => 1 | .late => 2 | .afterRelease => 3

/-- A seal read: number, source, phase. -/
def SealRead.fields (r : SealRead) : List Field :=
  [.chars r.num, .byte (if r.source = .pedestal then 0 else 1), .byte (readPhaseByte r.phase)]

/-- The place of a window state: NOT_OPENED, OPEN, CLOSED. -/
def windowStateByte : WindowState → Nat
  | .notOpened => 0 | .opened => 1 | .closed => 2

/-- The place of a verdict: MATCH, MISSING, FOREIGN, UNREAD; NONE_DECLARED is 4. -/
def verdictByte : Verdict → Nat
  | .matched => 0 | .missing => 1 | .foreign => 2 | .unread => 3

/-- A drop's window state and verdict. -/
def SealRecord.stateFields (r : SealRecord) : List Field :=
  .byte (windowStateByte r.window) :: optField (fun v => [.byte (verdictByte v)]) r.verdict

/-- The slot, 1 or 2, of the drop at a position: its place among the visit's drops (8.1). -/
def Visit.slotOf (v : Visit) (i : Nat) : Nat := v.drops.findIdx (fun j => decide (j = i)) + 1

/-- A drop's slot and check records as VISIT_READ returns them (R171), with the index's standing: BELOW, INSPECT,
HOLD. NONE_DECLARED is 4 behind an absent record (DESIGN CHOICE, notes/assumptions/64.md). -/
def MoveEntry.checkFields (cfg : Settings) (slot : Nat) (m : MoveEntry) : List Field :=
  .byte slot :: (match m.sealRec with
    | some r => .present :: listField (fun t => [.chars t]) r.declared
        ++ listField SealRead.fields r.reads ++ r.stateFields
    | none => [.absent, .byte 4])
  ++ match m.damage with
    | some d => d.severity.toList.map Field.byte ++ [.byte d.count, .byte d.index, .byte d.after
        , .byte (if d.index ≥ cfg.tHold then 2 else if d.index ≥ cfg.tInspect then 1 else 0)]
    | none => []

/-- A move as VISIT_READ returns it; a drop with its slot. -/
def MoveEntry.fields (cfg : Settings) (slot : Nat) (m : MoveEntry) : List Field :=
  .byte (moveKindByte m.kind) :: optField (fun t => [.chars t]) m.container
    ++ [.chars m.owner, .byte (moveStateByte m.state)] ++ optField (fun b => [.byte b.val]) m.block
    ++ (if isDrop m.kind then m.checkFields cfg slot else [])

/-- A timer's remainder where it runs; a suspended one keeps its remainder, which is returned too (R171; DESIGN CHOICE,
notes/assumptions/55.md). -/
def timerField : Timer → List Field
  | .stopped => [.absent]
  | .running n => [.present, .word n]
  | .suspended n => [.present, .word n]

/-- A live visit with every field of its record (R84). The order is 4.1's, the ending mark second, a drop's check records
with its move and the window remainders last (DESIGN CHOICE, notes/assumptions/64.md). -/
def State.visitFields (s : State) (v : Visit) : List Field :=
  [.word v.number, flagField v.ending.isSome, .byte (stageByte v.stage)]
    ++ optField (fun l => [.byte (laneNumber l)]) v.lane
    ++ optField (fun d => [.byte (deskNumber d)]) v.desk
    ++ optField (fun t => [.chars t]) v.plate ++ optField (fun t => [.chars t]) v.card
    ++ [.byte v.axle]
    ++ listField (fun c : Claimed => [.chars c.ref, .byte (standingByte c.standing), flagField c.holdover])
      v.claimed
    ++ listField (fun p : MoveEntry × Nat => p.1.fields s.cfg (v.slotOf p.2)) v.moves.zipIdx
    ++ listField holdFields v.holds
    ++ listField SealRead.fields v.stray ++ optField directionFields v.direction
    ++ optField (fun g : Staging => [.minute g.minute, flagField g.eligible]) v.staging
    ++ [.minute v.arrival, .word v.arrivalSec.toNat] ++ optField (fun m => [.minute m]) v.release
    ++ causeFields v.causes
    ++ match s.bindingLane v.number with
      | some l => timerField ((s.lane l).timer .sealWindow) ++ timerField ((s.lane l).timer .damageWindow)
      | none => [.absent, .absent]

/-- The table-wide part of the answer. -/
def State.tableFields (s : State) : List Field :=
  [.byte s.vt.visits.length, .byte s.liveCount]
    ++ listField (fun l => [.byte (laneNumber l)]) s.vt.slotWait ++ [.byte s.stagingCount]

/-- A visit as VISIT_READ returns it, closed ones with number, stage and causes, and without an ending mark (DESIGN CHOICE,
notes/assumptions/64.md). -/
def State.readVisit (s : State) (v : Visit) : State :=
  let body := if v.stage = .closed then
      [.word v.number, .byte (stageByte .closed)] ++ causeFields v.causes
    else s.visitFields v
  s.complete .ok (body ++ s.tableFields)

/-- VISIT_READ served (R84). The table-wide items come with OK and NOT_FOUND, and BAD_VALUE has no payload (DESIGN CHOICE,
notes/assumptions/52.md). -/
def State.serveVisitRead (s : State) (sel : VisitSel) : State :=
  let answer := fun v : Option Visit =>
    match v with
    | some v => s.readVisit v
    | none => s.complete .notFound s.tableFields
  match sel with
  | .number n => answer (s.visit? n)
  | .lane k =>
    match laneOf k with
    | some l => answer ((s.lane l).visit.bind s.visit?)
    | none => s.complete .badValue
  | .desk k =>
    match deskOf k with
    | some d =>
      match s.td.desks[d] with
      | .serving n _ _ => answer (s.visit? n)
      | .free => answer none
    | none => s.complete .badValue
  | .staging p =>
    if p > 23 then s.complete .badValue else answer (s.stagingList[p]?.bind s.visit?)

/-- VISIT_READ as the port takes it. -/
def State.doVisitRead (s : State) (tag : Byte) (sel : VisitSel) : State :=
  s.plainCommand tag (.visitRead tag sel) false fun s => s.serveVisitRead sel

/-- VISIT_READ (R84). -/
def execVisitRead (tag : Byte) (sel : VisitSel) (s : State) : Host.Outcome State Fault Refusal :=
  .next (s.doVisitRead tag sel)

end Sys2Proof.Machine
end

