-- ==== Sys2Proof/Machine/CheckCmds.lean ====
section
/-! DEFINITION. The Check Unit's commands: SEAL_REPORT and its VOID form (R163), DAMAGE_REPORT (R167, R168),
DAMAGE_DONE (R169). -/

namespace Sys2Proof.Machine

/-! ### SEAL_REPORT (R163) -/

/-- The checks SEAL_REPORT makes in order: the visit, or the refusal. -/
def State.sealTarget (s : State) (n : Nat) (t : Text) (slot : Option Nat) : Except Status Visit :=
  if !sealForm t || !slotForm slot then .error .badValue
  else
    match s.live? n with
    | none => .error .notFound
    | some v =>
      if v.ending.isSome then .error .wrongState
      else if v.drops.isEmpty then .error .wrongState
      else .ok v

/-- The place of a read's fate: DROP 1, DROP 2, BOTH, STRAY, REPEAT, DISCARDED. -/
def fateByte : ReadFate → Nat
  | .drop1 => 0 | .drop2 => 1 | .both => 2 | .stray => 3 | .again => 4 | .discarded => 5

/-- Whether SEAL was placed, released, or left as it stood. -/
def sealEffectByte : SealEffect → Nat
  | .placed => 0 | .released => 1 | .left => 2

/-- Each sealed drop's window state and verdict, and what became of SEAL. -/
def State.sealFields (s : State) (n : Nat) (e : SealEffect) : List Field :=
  (match s.visit? n with
    | some v => listField SealRecord.stateFields v.seals
    | none => [.byte 0]) ++ [.byte (sealEffectByte e)]

/-- SEAL_REPORT without VOID served. -/
def State.serveSealReport (s : State) (n : Nat) (t : Text) (slot : Option Nat) : State :=
  match s.sealTarget n t slot with
  | .error st => s.complete st
  | .ok _ =>
    let (s, fate, e) := s.takeSealRead n t .host slot
    s.complete .ok (.byte (fateByte fate) :: s.sealFields n e)

/-- SEAL_REPORT as the port takes it. -/
def State.doSealReport (s : State) (tag : Byte) (n : Nat) (t : Text) (slot : Option Nat) : State :=
  s.plainCommand tag (.sealReport tag n t slot) true fun s => s.serveSealReport n t slot

/-- SEAL_REPORT (R163). -/
def execSealReport (tag : Byte) (n : Nat) (t : Text) (slot : Option Nat) (s : State) :
    Host.Outcome State Fault Refusal :=
  .next (s.doSealReport tag n t slot)

/-- SEAL_REPORT with VOID served: every read of the number is struck out. R163 gives its answer the content of a
read's, the destination among it, and states no destination for a number struck out: that byte is a free value among the
six (DESIGN CHOICE, notes/assumptions/34.md). -/
def State.serveSealVoid (s : State) (n : Nat) (t : Text) (slot : Option Nat) : State :=
  match s.sealTarget n t slot with
  | .error st => s.complete st
  | .ok v =>
    if v.stage = .released then s.complete .wrongState
    else if !v.holdsSeal t then s.complete .notFound
    else
      let (s, e) := s.settleSeals n v (v.strikeRead t) .struck
      s.complete .ok (.byte (Config.voidFate n t % 6) :: s.sealFields n e)

/-- SEAL_REPORT with VOID as the port takes it. -/
def State.doSealVoid (s : State) (tag : Byte) (n : Nat) (t : Text) (slot : Option Nat) : State :=
  s.plainCommand tag (.sealReportVoid tag n t slot) true fun s => s.serveSealVoid n t slot

/-- SEAL_REPORT with VOID (R163). -/
def execSealReportVoid (tag : Byte) (n : Nat) (t : Text) (slot : Option Nat) (s : State) :
    Host.Outcome State Fault Refusal :=
  .next (s.doSealVoid tag n t slot)

/-! ### DAMAGE_REPORT (R167) -/

/-- The drop and its record a report goes to, or the refusal, in the order of R167. -/
def State.damageTarget (s : State) (n : Nat) (slot : Option Nat) (fs : List Finding) :
    Except Status (Visit × Nat × DamageRecord) :=
  let twin := (s.live? n).any fun v => decide (v.drops.length = 2)
  if !inRange 1 7 fs.length || !slotForm slot || (twin && slot.isNone) then .error .badValue
  else
    match s.live? n with
    | none => .error .notFound
    | some v =>
      if v.ending.isSome then .error .wrongState
      else if v.drops.isEmpty then .error .wrongState
      else
        match v.dropOf (slot.getD 1) with
        | none => .error .notFound
        | some i =>
          match (v.moves[i]?).bind (·.damage) with
          | some d => .ok (v, i, d)
          | none => .error .notFound

/-- The effects of a report (R167): DAMAGE (0 none, 1 placed, 2 refused), redirect asked for, RECORDED (DESIGN CHOICE,
notes/assumptions/57.md). -/
def DamageEffect.fields (e : DamageEffect) : List Field :=
  [.byte (match e.hold with
      | none => 0
      | some .full => 2
      | some .wrongState => 2
      | some _ => 1), flagField e.redirect.isSome, flagField e.recorded]

/-- DAMAGE_REPORT served. -/
def State.serveDamageReport (s : State) (n : Nat) (slot : Option Nat) (fs : List Finding) : State :=
  match s.damageTarget n slot fs with
  | .error st => s.complete st
  | .ok (v, i, d) =>
    let (s, d', e) := s.takeFindings v i d fs
    let clamped := fs.any fun f => decide (f.severity > Config.maxSeverity)
    s.complete (okStatus clamped)
      (d'.severity.toList.map Field.byte ++ [.byte d'.count, .byte d.index, .byte d'.index] ++ e.fields)

/-- DAMAGE_REPORT as the port takes it. -/
def State.doDamageReport (s : State) (tag : Byte) (n : Nat) (slot : Option Nat) (fs : List Finding) : State :=
  s.plainCommand tag (.damageReport tag n slot fs) true fun s => s.serveDamageReport n slot fs

/-- DAMAGE_REPORT (R167). -/
def execDamageReport (tag : Byte) (n : Nat) (slot : Option Nat) (fs : List Finding) (s : State) :
    Host.Outcome State Fault Refusal :=
  .next (s.doDamageReport tag n slot fs)

/-! ### DAMAGE_DONE (R169) -/

/-- The lane whose damage window is running or suspended for a visit. -/
def State.damageLane (s : State) (n : Nat) : Option LaneId :=
  (s.bindingLane n).bind fun l => if (s.lane l).timerOn .damageWindow then some l else none

/-- DAMAGE_DONE served; OK carries the mark that the window was closed already (notes/assumptions/21.md), which a window not yet started for a
visit granted to a stopped lane counts as (DESIGN CHOICE, notes/assumptions/51.md). -/
def State.serveDamageDone (s : State) (n : Nat) : State :=
  match s.live? n with
  | none => s.complete .notFound
  | some v =>
    if v.ending.isSome then s.complete .wrongState
    else
      match s.damageLane n with
      | some l => ((s.stopTimer l .damageWindow).checkFinal l).complete .ok (markField 0)
      | none => s.complete .ok (markField 1)

/-- DAMAGE_DONE as the port takes it. -/
def State.doDamageDone (s : State) (tag : Byte) (n : Nat) : State :=
  s.plainCommand tag (.damageDone tag n) true fun s => s.serveDamageDone n

/-- DAMAGE_DONE (R169). -/
def execDamageDone (tag : Byte) (n : Nat) (s : State) : Host.Outcome State Fault Refusal :=
  .next (s.doDamageDone tag n)

end Sys2Proof.Machine
end

