-- ==== Sys2Proof/Machine/Desks.lean ====
section
/-! DEFINITION. The desk commands (chapter 10): DESK_TAKE, DESK_RETRY, DESK_REBOOK, DESK_SEND, DESK_TURN_BACK,
DESK_RETURN. -/

namespace Sys2Proof.Machine

/-- What every desk answer carries of the desk as it stands after the command (R193): absent when it is FREE (DESIGN CHOICE,
notes/assumptions/20.md). -/
def State.deskFields (s : State) (d : DeskId) : List Field :=
  match s.td.desks[d] with
  | .serving n t r => [.present, .word n, .minute t, flagField r]
  | .free => [.absent]

/-- The command of a desk completes: its ready mark is set anew, and its answer opens with the desk (R194). -/
def State.completeDesk (s : State) (d : DeskId) (st : Status) (payload : List Field := []) : State :=
  let s := s.refreshReady d
  s.complete st (s.deskFields d ++ payload)

/-- A desk operand: BAD_VALUE outside 1 to 4 (R193). -/
def State.withDesk (s : State) (k : Nat) (f : DeskId → State) : State :=
  match deskOf k with
  | some d => f d
  | none => s.complete .badValue

/-- A desk command on the served visit: refused WRONG_STATE at a FREE desk. -/
def State.withServed (s : State) (k : Nat) (f : DeskId → Nat → State) : State :=
  s.withDesk k fun d =>
    match s.td.desks[d] with
    | .serving n _ _ => f d n
    | .free => s.completeDesk d .wrongState

/-! ### DESK_TAKE (R193) -/

/-- The visit claims a booking of hazardous cargo. -/
def State.hazardous (s : State) (n : Nat) : Bool :=
  (s.claimedRefs n).any fun r =>
    (s.booking? r).any fun b => decide (b.special = .hazard) || decide (b.special = .reeferHazard)

/-- The visit a desk takes: the oldest hazardous one, or the oldest. -/
def State.deskChoice (s : State) : Option Nat :=
  match s.td.queue.find? s.hazardous with
  | some n => some n
  | none => s.td.queue.head?

/-- The chosen visit leaves the queue and is served at the desk. -/
def State.seat (s : State) (d : DeskId) (n : Nat) : State :=
  let s := { s with td := { s.td with queue := s.td.queue.filter fun m => decide (m ≠ n) } }
  let s := s.writeVisit n .stage fun v => { v with stage := .atDesk, desk := some d }
  (s.setDesk d (.serving n s.now false)).refreshReady d

/-- DESK_TAKE served. The visit number R193 gives its answer is the one the desk's state opens with (DESIGN CHOICE,
notes/assumptions/20.md). -/
def State.serveDeskTake (s : State) (k : Nat) : State :=
  s.withDesk k fun d =>
    match s.td.desks[d], s.deskChoice with
    | .serving .., _ => s.completeDesk d .wrongState
    | .free, none => s.completeDesk d .empty
    | .free, some n =>
      let hazard := s.hazardous n
      let s := s.seat d n
      let holds := ((s.visit? n).map (·.holds)).getD []
      s.completeDesk d .ok (listField holdFields holds ++ [flagField hazard])

/-- DESK_TAKE as the port takes it. -/
def State.doDeskTake (s : State) (tag : Byte) (k : Nat) : State :=
  s.plainCommand tag (.deskTake tag k) true fun s => s.serveDeskTake k

/-- DESK_TAKE (R193). -/
def execDeskTake (tag : Byte) (k : Nat) (s : State) : Host.Outcome State Fault Refusal := .next (s.doDeskTake tag k)

/-! ### DESK_RETRY (R194) -/

/-- The place of a wait-list mark: ON_LIST, OFF_LIST, HOLD_REFUSED. -/
def listMarkByte : ListMark → Nat
  | .onList => 0 | .offList => 1 | .holdRefused => 2

/-- DESK_RETRY served. The mark of a WRONG_STATE answer is 1 for NO_MOVES, else 0 (DESIGN CHOICE, notes/assumptions/21.md). -/
def State.serveDeskRetry (s : State) (k : Nat) : State :=
  s.withServed k fun d n =>
    match s.assign n .direction with
    | (s, .assigned) =>
      let stops := (((s.visit? n).bind (·.direction)).map directionFields).getD []
      s.completeDesk d .ok stops
    | (s, .noYard _ kind mark) => s.completeDesk d .noRoom [.byte (blockKindByte kind), .byte (listMarkByte mark)]
    | (s, .noMoves) => s.completeDesk d .wrongState (markField 1)
    | (s, .wrongState) => s.completeDesk d .wrongState (markField 0)

/-- DESK_RETRY as the port takes it. -/
def State.doDeskRetry (s : State) (tag : Byte) (k : Nat) : State :=
  s.plainCommand tag (.deskRetry tag k) true fun s => s.serveDeskRetry k

/-- DESK_RETRY (R194). -/
def execDeskRetry (tag : Byte) (k : Nat) (s : State) : Host.Outcome State Fault Refusal :=
  .next (s.doDeskRetry tag k)

/-! ### DESK_REBOOK (R195) -/

/-- The booking's present charge stands in this pool of this window. -/
def State.chargedAt (s : State) (b : Booking) (w : Window) (p : Pool) : Bool :=
  s.holdsCharge b && decide (b.tag = w.start) && decide (b.pool = p)

/-- The target pool of a rebook; the booking's own present place counts as room. -/
def State.rebookPool (s : State) (b : Booking) (w : Window) : Option Pool :=
  if b.special ≠ .plain ∧ (w.hasRoom .reserve || s.chargedAt b w .reserve) then some .reserve
  else if w.hasRoom .general || s.chargedAt b w .general then some .general
  else none

/-- An accepted rebook: the charge moved, NO_SLOT released, the standing computed anew, and NO_SLOT placed with
source DESK under STAGE. -/
def State.rebook (s : State) (n : Nat) (b : Booking) (w : Window) (p : Pool) : State × JudgeResult :=
  let s := if s.chargedAt b w p then s else s.moveCharge b.ref w p
  let s := (s.releaseTold n .noSlot).1
  let (s, j) := s.judge [b.ref]
  let s := s.writeStandings n j.judged
  (if j.stage.isSome then (s.placeTold n .noSlot .desk).1 else s, j)

/-- What an accepted rebook answers. -/
def State.rebookFields (s : State) (n : Nat) (j : JudgeResult) : List Field :=
  (j.judged.flatMap fun x =>
    [.minute x.tag, .byte (poolByte x.pool), .byte (standingByte x.standing)] ++ offsetFields x.offset)
    ++ optField (fun m => [.minute m]) j.stage
    ++ [flagField ((s.visit? n).any fun v => v.holdsReason .noSlot)]

/-- DESK_REBOOK served. -/
def State.serveDeskRebook (s : State) (k : Nat) (ref : Text) (start : Nat) : State :=
  s.withServed k fun d n =>
    match if ref ∈ s.claimedRefs n then s.booking? ref else none with
    | none => s.completeDesk d .notFound
    | some b =>
      if b.flags.withdrawn then s.completeDesk d .wrongState
      else
        match s.windowOf start with
        | none => s.completeDesk d .notFound
        | some w =>
          if s.due w then s.completeDesk d .wrongState
          else
            match s.rebookPool b w with
            | none => s.completeDesk d .noRoom
            | some p =>
              let (s, j) := s.rebook n b w p
              s.completeDesk d .ok (s.rebookFields n j)

/-- DESK_REBOOK as the port takes it. The Book Engine's grant serves it whole, so that a refusal for its desk (R193) waits for
that grant too and counts as one (DESIGN CHOICE, notes/assumptions/69.md). -/
def State.doDeskRebook (s : State) (tag : Byte) (k : Nat) (ref : Text) (start : Nat) : State :=
  s.engineCommand tag (.deskRebook tag k ref start) true fun s => s.serveDeskRebook k ref start

/-- DESK_REBOOK (R195). -/
def execDeskRebook (tag : Byte) (k : Nat) (ref : Text) (start : Nat) (s : State) :
    Host.Outcome State Fault Refusal :=
  .next (s.doDeskRebook tag k ref start)

/-! ### DESK_SEND (R196) -/

/-- The condition a WRONG_STATE answer of DESK_SEND names: 0 DIRECTION, which R196 checks first, then R70's three, 1 to 3
(DESIGN CHOICE, notes/assumptions/21.md). -/
def releaseRefusalByte : ReleaseRefusal → Nat
  | .holds => 1 | .noBooking => 2 | .moves => 3

/-- DESK_SEND served: the release write, the desk FREE and its place granted; the command then waits for the
admission. -/
def State.serveDeskSend (s : State) (k : Nat) : State :=
  s.withServed k fun d n =>
    match s.writable? n with
    | none => s.completeDesk d .wrongState (markField 0)
    | some v =>
      if !v.complete then s.completeDesk d .wrongState (markField 0)
      else
        match v.releaseRefusal with
        | some r => s.completeDesk d .wrongState (markField (releaseRefusalByte r))
        | none => (((s.writeReleased n).setDesk d .free).grantPlace).setPhase (.admitting n)

/-- DESK_SEND as the port takes it. -/
def State.doDeskSend (s : State) (tag : Byte) (k : Nat) : State :=
  s.plainCommand tag (.deskSend tag k) true fun s => s.serveDeskSend k

/-- DESK_SEND (R196). -/
def execDeskSend (tag : Byte) (k : Nat) (s : State) : Host.Outcome State Fault Refusal := .next (s.doDeskSend tag k)

/-! ### DESK_TURN_BACK and DESK_RETURN (R197) -/

/-- DESK_TURN_BACK served: step 1 of the ending sequence; the command waits for the bookings step. A visit that is ending
already is turned back by no second sequence (R64, R72). -/
def State.serveDeskTurnBack (s : State) (k : Nat) : State :=
  s.withServed k fun d n =>
    if (s.writable? n).isSome then (s.beginEnding n .turnBack).setPhase (.ending n .turnBack)
    else s.completeDesk d .wrongState

/-- DESK_TURN_BACK as the port takes it. -/
def State.doDeskTurnBack (s : State) (tag : Byte) (k : Nat) : State :=
  s.plainCommand tag (.deskTurnBack tag k) true fun s => s.serveDeskTurnBack k

/-- DESK_TURN_BACK (R197). -/
def execDeskTurnBack (tag : Byte) (k : Nat) (s : State) : Host.Outcome State Fault Refusal :=
  .next (s.doDeskTurnBack tag k)

/-- The served visit goes back to the tail of the queue, with CLERK if it holds nothing. -/
def State.requeue (s : State) (d : DeskId) (n : Nat) : State :=
  let bare := (s.visit? n).any fun v => v.holds.isEmpty
  let s := if bare then (s.placeHold n .clerk .desk).1 else s
  let s := s.writeVisit n .stage fun v => { v with stage := .queued, desk := none }
  ({ s with td := { s.td with queue := s.td.queue ++ [n] } }).setDesk d .free

/-- DESK_RETURN served; the answer gives the visit's new position, the tail (R197), counted from 1 (DESIGN CHOICE,
notes/assumptions/56.md). -/
def State.serveDeskReturn (s : State) (k : Nat) : State :=
  s.withServed k fun d n =>
    let s := s.requeue d n
    s.completeDesk d .ok [.byte s.td.queue.length]

/-- DESK_RETURN as the port takes it. -/
def State.doDeskReturn (s : State) (tag : Byte) (k : Nat) : State :=
  s.plainCommand tag (.deskReturn tag k) true fun s => s.serveDeskReturn k

/-- DESK_RETURN (R197). -/
def execDeskReturn (tag : Byte) (k : Nat) (s : State) : Host.Outcome State Fault Refusal :=
  .next (s.doDeskReturn tag k)

end Sys2Proof.Machine
end

