-- ==== Sys2Proof/Machine/Lanes.lean ====
section
/-! DEFINITION. The lane commands: LANE_CONFIG, LANE_OPEN, LANE_CLOSE with and without FORCE, LANE_RECOVER,
LANE_STATUS, PLATE_REPORT (chapters 5 to 7), STOP_ALL_SET and STOP_ALL_CLEAR (R101). -/

namespace Sys2Proof.Machine

/-- A lane operand, checked as LANE_OPEN checks it: BAD_VALUE outside 1 to 12, OUT_OF_RANGE above the strap
(R130); otherwise the entry goes on with the lane. -/
def State.withLane (s : State) (k : Nat) (f : LaneId → State) : State :=
  match laneOf k with
  | none => s.complete .badValue
  | some l => if s.strapped l then f l else s.complete .outOfRange

/-! ### LANE_CONFIG (R108) -/

/-- An enumerated numeric setting is in its list. -/
def oneOf (l : List Nat) : Option Nat → Bool := optForm fun n => decide (n ∈ l)

/-- The settings after a LANE_CONFIG, clamped. -/
def LaneConfig.write (c : LaneConfig) (op : LaneConfigOp) : LaneConfig :=
  { polarity := op.polarity.zipWith (fun n o => n.getD o) c.polarity
    mode := op.mode.zipWith (fun n o => n.getD o) c.mode
    sample := op.sample.getD c.sample
    depth := setClamped 2 8 op.depth c.depth
    raiseLimit := setClamped 2 15 op.raiseLimit c.raiseLimit
    axleTwinMin := setClamped 2 9 op.axleTwinMin c.axleTwinMin
    parkAfter := setClamped 1 60 op.parkAfter c.parkAfter
    pedestalLimit := setClamped 30 600 op.pedestalLimit c.pedestalLimit
    holdLimit := setClamped 30 900 op.holdLimit c.holdLimit
    clearLimit := setClamped 10 120 op.clearLimit c.clearLimit
    linkRate := op.linkRate.getD c.linkRate }

/-- A numeric setting given lies outside its range. -/
def LaneConfigOp.clamped (op : LaneConfigOp) : Bool :=
  outside 2 8 op.depth || outside 2 15 op.raiseLimit || outside 2 9 op.axleTwinMin
    || outside 1 60 op.parkAfter || outside 30 600 op.pedestalLimit || outside 30 900 op.holdLimit
    || outside 10 120 op.clearLimit

/-- The filters after a LANE_CONFIG: an input whose polarity or mode changed starts again inactive (R91). -/
def restartFilters (old new : LaneConfig) (fs : Vector Filter 6) : Vector Filter 6 :=
  Vector.ofFn fun i =>
    if old.polarity[i] ≠ new.polarity[i] ∨ old.mode[i] ≠ new.mode[i] then { level := false, run := 0 } else fs[i]

/-- A change of LINK_RATE restarts the link; tickets lost are reported (R112, R123). -/
def State.restartLink (s : State) (l : LaneId) : State :=
  let (k, rs) := (s.lane l).link.drop
  (s.modLane l fun x => { x with link := { k with rx := .hunt, assembly := [] } }).reportTickets l rs

/-- LANE_CONFIG served. -/
def State.serveLaneConfig (s : State) (k : Nat) (op : LaneConfigOp) : State :=
  if !oneOf [1, 2, 5, 10] op.sample || !oneOf [9600, 19200, 38400] op.linkRate then s.complete .badValue
  else
    s.withLane k fun l =>
      let x := s.lane l
      if x.state ≠ .closed ∨ x.output ≠ .withdrawn then s.complete .wrongState
      else
        let c := LaneConfig.write x.cfg op
        let s := s.modLane l fun x => { x with cfg := c, filters := restartFilters x.cfg c x.filters }
        let s := if c.linkRate ≠ x.cfg.linkRate then s.restartLink l else s
        s.complete (okStatus (LaneConfigOp.clamped op))

/-- LANE_CONFIG as the port takes it. -/
def State.doLaneConfig (s : State) (tag : Byte) (k : Nat) (op : LaneConfigOp) : State :=
  s.plainCommand tag (.laneConfig tag k op) true fun s => s.serveLaneConfig k op

/-- LANE_CONFIG (R108). -/
def execLaneConfig (tag : Byte) (k : Nat) (op : LaneConfigOp) (s : State) : Host.Outcome State Fault Refusal :=
  .next (s.doLaneConfig tag k op)

/-! ### LANE_OPEN, LANE_CLOSE, LANE_RECOVER (R130, R131, R132, R153) -/

/-- A lane opened while a stop-all is in force enters FAULT STOPPED with remembered state IDLE (R102). -/
def State.openStopped (s : State) (l : LaneId) : State :=
  s.modLane l fun x => Lane.stopped { x.cleared with state := .idle }

/-- LANE_OPEN served. -/
def State.serveLaneOpen (s : State) (k : Nat) : State :=
  s.withLane k fun l =>
    if s.tb.clock = .unset then s.complete .clockUnset
    else if (s.lane l).state ≠ .closed ∨ (s.lane l).output ≠ .withdrawn then s.complete .wrongState
    else (if s.stop.inForce then s.openStopped l else s.enterIdle l).complete .ok

/-- LANE_OPEN as the port takes it. -/
def State.doLaneOpen (s : State) (tag : Byte) (k : Nat) : State :=
  s.plainCommand tag (.laneOpen tag k) true fun s => s.serveLaneOpen k

/-- LANE_OPEN (R130). -/
def execLaneOpen (tag : Byte) (k : Nat) (s : State) : Host.Outcome State Fault Refusal := .next (s.doLaneOpen tag k)

/-- LANE_CLOSE served (R131). -/
def State.serveLaneClose (s : State) (k : Nat) : State := s.withLane k fun l => (s.closeLane l).complete .ok

/-- LANE_CLOSE as the port takes it. -/
def State.doLaneClose (s : State) (tag : Byte) (k : Nat) : State :=
  s.plainCommand tag (.laneClose tag k) true fun s => s.serveLaneClose k

/-- LANE_CLOSE (R131). -/
def execLaneClose (tag : Byte) (k : Nat) (s : State) : Host.Outcome State Fault Refusal :=
  .next (s.doLaneClose tag k)

/-- LANE_CLOSE with FORCE served (R132): with a bound visit the command waits for the bookings step. -/
def State.serveLaneCloseForce (s : State) (k : Nat) : State :=
  s.withLane k fun l =>
    if (s.lane l).state = .closed then s.complete .ok
    else
      match s.forceClose l with
      | (s, some n) => s.setPhase (.ending n .turnBack)
      | (s, none) => s.complete .ok

/-- LANE_CLOSE with FORCE as the port takes it. -/
def State.doLaneCloseForce (s : State) (tag : Byte) (k : Nat) : State :=
  s.plainCommand tag (.laneCloseForce tag k) true fun s => s.serveLaneCloseForce k

/-- LANE_CLOSE with FORCE (R132). -/
def execLaneCloseForce (tag : Byte) (k : Nat) (s : State) : Host.Outcome State Fault Refusal :=
  .next (s.doLaneCloseForce tag k)

/-- LANE_RECOVER served (R104, R153). -/
def State.serveLaneRecover (s : State) (k : Nat) : State :=
  s.withLane k fun l =>
    match s.recoverLane l with
    | some s => s.complete .ok
    | none => s.complete .wrongState

/-- LANE_RECOVER as the port takes it. -/
def State.doLaneRecover (s : State) (tag : Byte) (k : Nat) : State :=
  s.plainCommand tag (.laneRecover tag k) true fun s => s.serveLaneRecover k

/-- LANE_RECOVER (R153). -/
def execLaneRecover (tag : Byte) (k : Nat) (s : State) : Host.Outcome State Fault Refusal :=
  .next (s.doLaneRecover tag k)

/-! ### LANE_STATUS (R109, R126, R129) -/

/-- The place of a lane state in 7.1's table, and a code for its fault cause, the causes standing in no one list (DESIGN
CHOICE, notes/assumptions/57.md). -/
def laneStateFields : LaneState → List Field
  | .closed => [.byte 0, .absent] | .parked => [.byte 1, .absent] | .idle => [.byte 2, .absent]
  | .approach => [.byte 3, .absent] | .identify => [.byte 4, .absent] | .checking => [.byte 5, .absent]
  | .held => [.byte 6, .absent] | .directed => [.byte 7, .absent] | .releasing => [.byte 8, .absent]
  | .fault .boomJam => [.byte 9, .present, .byte 0] | .fault .stalled => [.byte 9, .present, .byte 1]
  | .fault .tailgate => [.byte 9, .present, .byte 2] | .fault .stopped => [.byte 9, .present, .byte 3]

/-- The place of a detection mode in R86's table. -/
def modeByte : DetectMode → Nat
  | .off => 0 | .level => 1 | .rise => 2 | .fall => 3 | .both => 4

/-- The place of a polarity. -/
def polarityByte : Polarity → Nat
  | .normal => 0 | .inverted => 1

/-- The condition of a timer with its remainder, which is sent as 0 for a STOPPED one (DESIGN CHOICE,
notes/assumptions/57.md). -/
def timerFields : Timer → List Field
  | .stopped => [.byte 0, .word 0]
  | .running n => [.byte 1, .word n]
  | .suspended n => [.byte 2, .word n]

/-- The condition of the boom-raise output. -/
def outputByte : BoomOutput → Nat
  | .withdrawn => 0 | .asserted => 1 | .withdrawPending => 2

/-- A stamp with its presence. -/
def stampField (t : Option LaneSec) : List Field := optField (fun n : LaneSec => [.word n.toNat]) t

/-- What the sensing side reports (R109), the light as 1 for green and 0 for red (DESIGN CHOICE, notes/assumptions/57.md). -/
def Lane.sensingFields (x : Lane) : List Field :=
  (allInputs.flatMap fun i =>
    [flagField (x.reads i), .byte (polarityByte x.cfg.polarity[inputIdx i]), .byte (modeByte x.cfg.mode[inputIdx i])])
  ++ (x.stamps.toList.flatMap fun t => stampField t.current ++ stampField t.previous)
  ++ [.byte x.boomCount, .byte x.axleCount, flagField x.axleOpen, .byte (outputByte x.output), flagField x.green]
  ++ laneStateFields x.state ++ [flagField x.closing]
  ++ optField (fun r : Remembered => laneStateFields r.state) x.remembered
  ++ x.timers.toList.flatMap timerFields
  ++ (if x.state = .parked then optField (fun b => [flagField b]) x.wakeArmed else [.absent])
  ++ (if x.state = .idle then optField (fun m => [.minute m]) x.parkRef else [.absent])

/-- The place of a destination: YARD, STAGING, TROUBLE, BACK. -/
def destByte : Dest → Nat
  | .yard => 0 | .staging => 1 | .trouble => 2 | .back => 3

/-- The place of a ticket state: AWAITED, ENDED, NONE. -/
def ticketByte : TicketState → Nat
  | .awaited => 0 | .ended => 1 | .none => 2

/-- The place of a request in flight in 7.1's table. -/
def flightByte : Flight → Nat
  | .none => 0 | .search _ => 1 | .claim _ => 2 | .direction => 3 | .reserve _ => 4

/-- The items of 7.1's table (R129). A send-off that a lane in FAULT keeps is returned as present, an approach reference that a
stopped one keeps likewise, and the prompt mode in every state (DESIGN CHOICE, notes/assumptions/66.md). -/
def Lane.machineFields (x : Lane) : List Field :=
  optField (fun n => [.word n]) x.visit
    ++ optField (fun o : SendOff => [.byte (destByte o.dest), .byte (ticketByte o.ticket), flagField o.raiseOrdered])
      x.sendOff
    ++ [.byte (flightByte x.request)]
    ++ optField (fun e : Entry => match e with
        | .card t => [.byte 0, .chars t]
        | .ref t => [.byte 1, .chars t]) x.pendingEntry
    ++ optField (fun t => [.chars t]) x.pendingPlate
    ++ [.byte (match x.promptMode with
        | .identify => 0
        | .enterRef => 1), flagField x.nothingEntered,
      .byte (match x.trouble with
        | .none => 0
        | .blocked => 1
        | .admitted => 2), flagField x.memApproach, flagField x.memStop]
    ++ optField (fun m => [.minute m]) x.approachRef ++ optField (fun n => [.word n]) x.lastReleased

/-- The kind character of an inbound message. -/
def InMsg.kind : InMsg → Nat
  | .card _ => 67 | .keyedRef _ => 82 | .keyedContainer .. => 75 | .sealRead .. => 83 | .press _ => 80
  | .hello => 72

/-- The five sticky flags as one byte: PARITY, FRAME, BADMSG, BREAK, OVERRUN from bit 0 (DESIGN CHOICE,
notes/assumptions/48.md). -/
def LinkMask.toByte (m : LinkMask) : Nat :=
  (if m.parity then 1 else 0) + (if m.frame then 2 else 0) + (if m.badMsg then 4 else 0)
    + (if m.brk then 8 else 0) + (if m.overrun then 16 else 0)

/-- The place of a LINK_RATE in its list. -/
def rateByte (n : Nat) : Nat := if n = 9600 then 0 else if n = 19200 then 1 else 2

/-- The link's part of the answer (R126); a message is named by the kind character of R207's table (DESIGN CHOICE,
notes/assumptions/48.md). -/
def Link.fields (k : Link) (rate : Nat) : List Field :=
  [.byte (if k.online then 0 else 1), .byte (match k.rx with
      | .hunt => 0
      | .inMessage => 1
      | .breakSeen => 2), flagField k.cts, .byte (rateByte rate), .byte (LinkMask.toByte k.flags)]
    ++ optField (fun m : InMsg => [.byte m.kind]) k.rxBuf
    ++ listField (fun m : OutMsg => [.byte m.kind.toNat]) k.txQueue
    ++ optField (fun t : Transmission => [.byte t.msg.kind.toNat, .byte (t.msg.chars.length - t.sent)]) k.tx

/-- The gate-wide part of the answer. -/
def State.stopFields (s : State) : List Field :=
  [flagField s.stop.inputSource, flagField s.stop.commandSource,
    .byte (match s.cfg.stopMode with
      | .hold => 0
      | .lowerIfClear => 1),
    .byte (match s.cfg.restart with
      | .auto => 0
      | .byCommand => 1)]

/-- The answer of LANE_STATUS, its parts in the model's order (DESIGN CHOICE, notes/assumptions/64.md); the place on the
slot-wait list counts from 1, and 0 is a lane not on it (DESIGN CHOICE, notes/assumptions/57.md). -/
def State.laneFields (s : State) (l : LaneId) : List Field :=
  let x := s.lane l
  x.sensingFields ++ x.machineFields
    ++ [.byte ((s.vt.slotWait.findIdx? fun k => decide (k = l)).elim 0 (· + 1))]
    ++ x.link.fields x.cfg.linkRate ++ s.stopFields

/-- LANE_STATUS served: the count of characters sent is read, the answer composed, then the flags named are cleared. -/
def State.serveLaneStatus (s : State) (k : Nat) (clear : LinkMask) : State :=
  match laneOf k with
  | none => s.complete .badValue
  | some l =>
    let s := s.modLink l Link.observe
    let fields := s.laneFields l
    (s.modLink l fun k => { k with flags := LinkMask.minus k.flags clear }).complete .ok fields

/-- LANE_STATUS as the port takes it: a changing command when its mask names a flag (R126). -/
def State.doLaneStatus (s : State) (tag : Byte) (k : Nat) (clear : LinkMask) : State :=
  s.plainCommand tag (.laneStatus tag k clear) (LinkMask.any clear) fun s => s.serveLaneStatus k clear

/-- LANE_STATUS (R109). -/
def execLaneStatus (tag : Byte) (k : Nat) (clear : LinkMask) (s : State) : Host.Outcome State Fault Refusal :=
  .next (s.doLaneStatus tag k clear)

/-! ### PLATE_REPORT (R137) -/

/-- A plate report is refused by the visit it would be written to: that visit is ending (R64). -/
def State.plateRefused (s : State) (n : Nat) : Bool := (s.visit? n).any (·.ending.isSome)

/-- A plate is written into the visit of a lane; in IDENTIFY without a booking it starts a search, or waits for the
answer in flight. A stopped lane writes it and starts no request; one that remembers IDENTIFY clears the nothing-entered
mark, and a request still in flight at its resumption is followed by no search of this plate (DESIGN CHOICE,
notes/assumptions/67.md). -/
def State.reportPlate (s : State) (l : LaneId) (n : Nat) (plate : Text) : State :=
  let x := s.lane l
  let s := s.writeVisit n .checks fun v => { v with plate := some plate }
  let identifying := decide (x.state = .identify) || (x.isStopped && x.remembered.any fun r => decide (r.state = .identify))
  if identifying && (s.claimedRefs n).isEmpty then
    let s := s.modLane l fun x => { x with nothingEntered := false }
    if x.isStopped then s
    else if x.request = .none then s.startRequest l (.search (.plate plate))
    else s.modLane l fun x => { x with plateToSearch := true }
  else s

/-- PLATE_REPORT served. A lane in DIRECTED with no visit, which has no row in R137's table, and one whose visit is ending
are WRONG_STATE (DESIGN CHOICE, notes/assumptions/41.md). -/
def State.servePlateReport (s : State) (k : Nat) (plate : Text) : State :=
  if !plateForm plate then s.complete .badValue
  else
    s.withLane k fun l =>
      let x := s.lane l
      match x.visit with
      | some n => if s.plateRefused n then s.complete .wrongState else (s.reportPlate l n plate).complete .ok
      | none =>
        if x.state = .approach ∨ x.state = .identify then
          (s.modLane l fun x => { x with pendingPlate := some plate }).complete .ok
        else s.complete .wrongState

/-- PLATE_REPORT as the port takes it. -/
def State.doPlateReport (s : State) (tag : Byte) (k : Nat) (plate : Text) : State :=
  s.plainCommand tag (.plateReport tag k plate) true fun s => s.servePlateReport k plate

/-- PLATE_REPORT (R137). -/
def execPlateReport (tag : Byte) (k : Nat) (plate : Text) (s : State) : Host.Outcome State Fault Refusal :=
  .next (s.doPlateReport tag k plate)

/-! ### STOP_ALL_SET and STOP_ALL_CLEAR (R101) -/

/-- STOP_ALL_SET as the port takes it. -/
def State.doStopAllSet (s : State) (tag : Byte) : State :=
  s.plainCommand tag (.stopAllSet tag) true fun s =>
    (s.setStop fun x => { x with commandSource := true }).complete .ok

/-- STOP_ALL_SET (R101). -/
def execStopAllSet (tag : Byte) (s : State) : Host.Outcome State Fault Refusal := .next (s.doStopAllSet tag)

/-- STOP_ALL_CLEAR as the port takes it. -/
def State.doStopAllClear (s : State) (tag : Byte) : State :=
  s.plainCommand tag (.stopAllClear tag) true fun s =>
    if s.stop.inputSource then s.complete .wrongState
    else (s.setStop fun x => { x with commandSource := false }).complete .ok

/-- STOP_ALL_CLEAR (R101). -/
def execStopAllClear (tag : Byte) (s : State) : Host.Outcome State Fault Refusal := .next (s.doStopAllClear tag)

end Sys2Proof.Machine
end

