-- ==== Sys2Proof/Machine/GatePort.lean ====
section
/-! DEFINITION. The gate's own commands: SETTINGS_WRITE and SETTINGS_READ (R205), GATE_STATUS (R202), CLEAR_FAULT
(R203), GATE_RESET (R204); and the resets POWER_ON_RESET and RESET_LINE (R110, R206). -/

namespace Sys2Proof.Machine

/-! ### SETTINGS_WRITE (R205) -/

/-- Some zone weight given lies above 15. -/
def SettingsOp.weightOver (op : SettingsOp) : Bool := op.weights.toList.any fun n => outside 0 15 n

/-- The gate settings after a write, clamped, T_HOLD raised to T_INSPECT. -/
def Settings.write (c : Settings) (op : SettingsOp) : Settings :=
  let tInspect := setClamped 1 255 op.tInspect c.tInspect
  { e := setClamped 0 120 op.e c.e
    g := setClamped 0 120 op.g c.g
    stopMode := op.stopMode.getD c.stopMode
    restart := op.restart.getD c.restart
    stopPolarity := op.stopPolarity.getD c.stopPolarity
    stopInput := op.stopInput.getD c.stopInput
    sealWindow := setClamped 10 120 op.sealWindow c.sealWindow
    damageWindow := setClamped 0 120 op.damageWindow c.damageWindow
    weights := op.weights.zipWith (fun n o => setClamped 0 15 n o) c.weights
    tInspect
    tHold := max tInspect (setClamped 1 255 op.tHold c.tHold) }

/-- A value was clamped, or T_HOLD raised. -/
def SettingsOp.clamped (op : SettingsOp) (c : Settings) : Bool :=
  outside 1 15 op.p || outside 1 60 op.hx || outside 0 120 op.e || outside 0 120 op.g
    || outside 10 120 op.sealWindow || outside 0 120 op.damageWindow || SettingsOp.weightOver op
    || outside 1 255 op.tInspect || outside 1 255 op.tHold
    || decide (setClamped 1 255 op.tHold c.tHold < setClamped 1 255 op.tInspect c.tInspect)

/-- The eligible minute of a staged visit from the starts of its EARLY_STAGED bookings (R56, R62). -/
def State.stagedMinute (s : State) (v : Visit) : Nat :=
  let early := v.claimed.filterMap fun c =>
    if c.standing = .earlyStaged then s.booking? c.ref else none
  eligibleOf s.cfg.e early

/-- A staged visit's eligible minute is computed anew; a change is marked (R62, R81, R82). -/
def State.restage (s : State) (n : Nat) : State :=
  match s.writable? n with
  | none => s
  | some v =>
    match v.staging with
    | none => s
    | some g =>
      let m := s.stagedMinute v
      if m = g.minute then s
      else s.writeVisit n .stage fun v => { v with staging := some { g with minute := m } }

/-- The indexes of a visit's drops under the weights in force. -/
def Visit.reindex (v : Visit) (w : Vector Nat 7) : Visit :=
  { v with moves := v.moves.map fun m =>
      { m with damage := m.damage.map fun d => { d with index := damageIndex w d.severity } } }

/-- A change of weights recomputes the index of every drop of a live visit; a visit not past its release point
whose index changed is marked (R165). An ending visit is live and is recomputed and marked like any other (DESIGN
CHOICE, notes/assumptions/39.md). -/
def State.reweigh (s : State) (n : Nat) : State :=
  match s.live? n with
  | none => s
  | some v =>
    let v' := v.reindex s.cfg.weights
    if v'.moves = v.moves then s
    else
      let s := s.modVisit n fun v => v.reindex s.cfg.weights
      if v.stage = .released then s else s.mark n .checks

/-- A change of STOP_POLARITY or STOP_INPUT restarts the stop-all input's filter (R87). -/
def State.restartStopFilter (s : State) : State :=
  { s with stop := { s.stop with filter := { level := false, run := 0 } } }

/-- The effects of new settings under their owners' rules (R5, R62, R165, R87). New weights mark the visits in the order of
the slot list, the order they were created in, and then a new E those staged in the order of the staging list under the
old minutes (DESIGN CHOICE, notes/assumptions/50.md). -/
def State.settingsEffects (s : State) (old : Settings) : State :=
  let c := s.cfg
  let s := if c.stopPolarity ≠ old.stopPolarity ∨ c.stopInput ≠ old.stopInput then s.restartStopFilter else s
  let s := if c.weights ≠ old.weights then (s.vt.visits.map (·.number)).foldl State.reweigh s else s
  let s := s.checkClock
  let s := if c.e ≠ old.e then (s.stagingList.foldl State.restage s).handEligible else s
  s

/-- SETTINGS_WRITE served (R205). It waits for the retirements it makes due, those of the windows due under the new settings
and not before (R62); one already held when it is taken is not waited for. -/
def State.serveSettingsWrite (s : State) (op : SettingsOp) : State :=
  let before := s
  let bad := op.stopInput.any fun m => decide (m ≠ .both ∧ m ≠ .off)
  let old := s.cfg
  let new := Settings.write old op
  if bad then s.complete .badValue
  else if s.stop.inForce && decide (new.stopPolarity ≠ old.stopPolarity ∨ new.stopInput ≠ old.stopInput) then
    s.complete .wrongState
  else
    let s := { s with
      cfg := new
      tb := { s.tb with p := setClamped 1 15 op.p s.tb.p, hx := setClamped 1 60 op.hx s.tb.hx } }
    let s := s.settingsEffects old
    let st := okStatus (SettingsOp.clamped op old)
    (s.setPhase (.retiring st (lastStart (s.dueWindows.filter fun w => !before.due w)))).settlePort

/-- SETTINGS_WRITE as the port takes it. -/
def State.doSettingsWrite (s : State) (tag : Byte) (op : SettingsOp) : State :=
  s.plainCommand tag (.settingsWrite tag op) true fun s => s.serveSettingsWrite op

/-- SETTINGS_WRITE (R205). -/
def execSettingsWrite (tag : Byte) (op : SettingsOp) (s : State) : Host.Outcome State Fault Refusal :=
  .next (s.doSettingsWrite tag op)

/-- Every gate setting in R205's order, and the strapped lane count. -/
def State.settingsFields (s : State) : List Field :=
  [.byte s.tb.p, .byte s.tb.hx, .byte s.cfg.e, .byte s.cfg.g] ++ s.stopFields.drop 2
    ++ [.byte (polarityByte s.cfg.stopPolarity), .byte (if s.cfg.stopInput = .both then 0 else 1)
      , .byte s.cfg.sealWindow, .byte s.cfg.damageWindow]
    ++ s.cfg.weights.toList.map Field.byte ++ [.byte s.cfg.tInspect, .byte s.cfg.tHold, .byte s.strap]

/-- SETTINGS_READ as the port takes it. -/
def State.doSettingsRead (s : State) (tag : Byte) : State :=
  s.plainCommand tag (.settingsRead tag) false fun s => s.complete .ok s.settingsFields

/-- SETTINGS_READ (R205). -/
def execSettingsRead (tag : Byte) (s : State) : Host.Outcome State Fault Refusal := .next (s.doSettingsRead tag)

/-! ### GATE_STATUS and CLEAR_FAULT (R202, R203) -/

/-- The seven gate flags, each a byte, in R202's order. -/
def GateMask.fields (m : GateMask) : List Field :=
  [m.clockChanged, m.syncReject, m.stopAll, m.laneFault, m.linkOffline, m.troubleFull, m.portFault].map flagField

/-- The place of a port-fault cause in R203's list. -/
def causeByte : PortFaultCause → Nat
  | .badFrame => 0 | .unknownCommand => 1 | .responseLost => 2

/-- The answer of GATE_STATUS. -/
def State.gateFields (s : State) : List Field :=
  GateMask.fields s.cp.flags ++ optField (fun c => [.byte (causeByte c)]) s.cp.faultCause
    ++ [.byte s.vt.changed.length, .byte s.strap, flagField s.stop.inForce]

/-- GATE_STATUS as the port takes it: the answer is composed, then the flags named are cleared. -/
def State.doGateStatus (s : State) (tag : Byte) (clear : GateMask) : State :=
  s.plainCommand tag (.gateStatus tag clear) false fun s => (s.clearFlags clear).complete .ok s.gateFields

/-- GATE_STATUS (R202). -/
def execGateStatus (tag : Byte) (clear : GateMask) (s : State) : Host.Outcome State Fault Refusal :=
  .next (s.doGateStatus tag clear)

/-- CLEAR_FAULT as the port takes it. -/
def State.doClearFault (s : State) (tag : Byte) : State :=
  s.plainCommand tag (.clearFault tag) false fun s =>
    (s.setFlags fun m => { m with portFault := false }).complete .ok

/-- CLEAR_FAULT (R203). -/
def execClearFault (tag : Byte) (s : State) : Host.Outcome State Fault Refusal := .next (s.doClearFault tag)

/-! ### GATE_RESET (R204) -/

/-- One booking at GATE_RESET (R38). -/
def State.resetBooking (s : State) (r : Text) : State :=
  match s.booking? r with
  | none => s
  | some b =>
    match b.state with
    | .arrived => s.unclaim r
    | .admitted => s.modBooking r fun b =>
        { b with state := .consumed, claimant := none, flags := { b.flags with incomplete := true } }
    | _ => s

/-- A link's part: queue and buffer emptied, RESET_KIOSK queued on an ONLINE link (R127). -/
def Link.gateReset (k : Link) : Link :=
  let lost := k.txQueue.flatMap (·.report .cleared)
  let k := { k with txQueue := [], rxBuf := none }
  ((k.queue .resetKiosk).1).noteReports lost

/-- A lane's part: CLOSED, a withdrawal ordered, counts 0, requests withdrawn, settings, filters and stamps kept
(R111, R154, R38). -/
def Lane.gateReset (x : Lane) : Lane :=
  { x.shut with
    output := x.output.withdraw (x.reads .boom), boomCount := 0, owed := [], link := x.link.gateReset }

/-- The parts of GATE_RESET block by block. -/
def State.gateReset (s : State) : State :=
  let s := (s.be.book.map (·.ref)).foldl State.resetBooking s
  { s with
    vt := { s.vt with visits := [], slotWait := [], stagedIn := [], changed := [] }
    lanes := Vector.ofFn fun l => if s.strapped l then (s.lane l).gateReset else s.lane l
    yd := { blocks := s.yd.blocks.map fun b => { b with inTransit := 0 }, waitList := [] }
    td := .reset }

/-- GATE_RESET as the port takes it: a retirement held is granted ahead of the reset's own request,
and the grant state stays as it is (R24, R38; notes/assumptions/32.md). Every part is made in one step, at that grant,
and none at the acceptance (DESIGN CHOICE, notes/assumptions/63.md). -/
def State.doGateReset (s : State) (tag : Byte) : State :=
  s.portCommand tag (.gateReset tag) true (fun s => !s.retirementHeld) fun s =>
    s.gateReset.complete .ok

/-- GATE_RESET (R204). -/
def execGateReset (tag : Byte) (s : State) : Host.Outcome State Fault Refusal := .next (s.doGateReset tag)

/-! ### Power-on and the RESET line (R110, R206) -/

/-- Every block in its reset condition, the pins sampled; the pedestals' CTS levels and the commands still to come
belong to the outside and stay. -/
def State.restart (s : State) (lc1 lc0 : Bool) : State :=
  { State.powerOn lc1 lc0 (fun l => (s.lane l).link.cts) with pending := s.pending }

/-- POWER_ON_RESET (R110). -/
def execPowerOnReset (lc1 lc0 : Bool) (s : State) : Host.Outcome State Fault Refusal := .next (s.restart lc1 lc0)

/-- RESET_LINE (R110): the same condition as power-on. -/
def execResetLine (lc1 lc0 : Bool) (s : State) : Host.Outcome State Fault Refusal := .next (s.restart lc1 lc0)

end Sys2Proof.Machine
end

