-- ==== Sys2Proof/Machine/TimeBase.lean ====
section
/-! DEFINITION. The Time Base's commands and events (chapter 1): TIME_SET, TIME_SYNC, CATCH_UP_STEP, TIME_STATUS,
LANE_SECOND, INTERNAL_MINUTE_TICK and RETIREMENT. -/

namespace Sys2Proof.Machine

/-- TIME_SET served (R7). -/
def State.serveTimeSet (s : State) (m : Nat) : State :=
  if m > Config.maxMinute then s.complete .badValue
  else if s.liveCount ≠ 0 ∨ s.lanes.toList.any fun x => decide (x.state ≠ .closed) then s.complete .wrongState
  else
    let s := { s with tb := { s.tb with
      minute := some m, lead := 0, sinceSync := 0, subMinute := 0, target := none, ticksDue := 0 } }
    ((s.setClock (if m = Config.maxMinute then .lost else .locked)).setPhase
      (.retiring .ok (lastStart s.dueWindows))).settlePort

/-- TIME_SET as the port takes it. -/
def State.doTimeSet (s : State) (tag : Byte) (m : Nat) : State :=
  s.plainCommand tag (.timeSet tag m) true fun s => s.serveTimeSet m

/-- TIME_SET (R7). -/
def execTimeSet (tag : Byte) (m : Nat) (s : State) : Host.Outcome State Fault Refusal :=
  .next (s.doTimeSet tag m)

/-- What every accepted sync does (R8). -/
def State.acceptSync (s : State) : State :=
  let s := { s with tb := { s.tb with sinceSync := 0, subMinute := 0, ticksDue := 0 } }
  s.setClock (if s.tb.minute = some Config.maxMinute then .lost else .locked)

/-- TIME_SYNC served (R8 to R11). Out of LOST a lead left from an earlier sync stands until the forward or backward work
begins, so that a tick in the wait for the retirements still absorbs it; and the catch-up target is set when the forward
work begins, not at acceptance, so that a tick in the wait moves the gate minute and leaves m as it is (DESIGN CHOICE,
notes/assumptions/23.md). -/
def State.serveTimeSync (s : State) (m : Nat) : State :=
  match s.tb.minute with
  | none => s.complete .clockUnset
  | some n =>
    if s.tb.clock = .unset then s.complete .clockUnset
    else if m > Config.maxMinute then s.complete .badValue
    else if n > m + Config.maxBackward then s.flagSyncReject.complete .outOfRange
    else
      let lost := decide (s.tb.clock = .lost)
      let s := s.acceptSync
      let last := lastStart s.dueWindows
      if m ≥ n then
        if lost then (s.setPhase (.recoverForward m last)).settlePort else s.beginForward m
      else if lost then (s.setPhase (.recoverBackward (n - m) last)).settlePort
      else s.applyLead (n - m)

/-- TIME_SYNC as the port takes it. -/
def State.doTimeSync (s : State) (tag : Byte) (m : Nat) : State :=
  s.plainCommand tag (.timeSync tag m) true fun s => s.serveTimeSync m

/-- TIME_SYNC (R8). -/
def execTimeSync (tag : Byte) (m : Nat) (s : State) : Host.Outcome State Fault Refusal :=
  .next (s.doTimeSync tag m)

/-- The next minute of the forward walk: the smallest above the present one at which an expiry falls due, or the
target (R9). -/
def State.nextStop (s : State) (target : Nat) : Nat :=
  let retirements :=
    if s.tb.clock = .locked ∨ s.tb.clock = .holdover then s.be.ring.map s.retireMinute else []
  let waiting := s.vt.stagedIn.filter fun n =>
    ((s.visit? n).bind (·.staging)).any fun g => !g.eligible
  ((retirements ++ waiting.map s.eligibleMinute).filter fun m => decide (s.now < m)).foldl min target

/-- The catch-up ends when the gate minute equals the target and every retirement due there is served. -/
def State.endCatchUp (s : State) (target : Nat) : State :=
  if s.now ≥ target ∧ !s.retirementHeld then
    let s := { s with tb := { s.tb with target := none } }
    match s.cp.inProgress with
    | some p => if p.phase = .catchUp then s.complete .ok else s
    | none => s
  else s

/-- One step of the forward walk (R9); it waits while a retirement is held. -/
def State.catchUp (s : State) : State :=
  match s.tb.target with
  | none => s
  | some t =>
    if s.retirementHeld then s
    else
      let s := if s.now < t then (s.moveMinute (s.nextStop t)).checkClock else s
      s.endCatchUp t

/-- CATCH_UP_STEP (R9). -/
def execCatchUpStep (s : State) : Host.Outcome State Fault Refusal := .next s.catchUp

/-- The answer of TIME_STATUS (R13). -/
def State.timeStatusFields (s : State) : List Field :=
  optField (fun m => [.minute m]) s.tb.minute ++
    [.byte (clockByte s.tb.clock), .byte s.tb.sinceSync, .byte s.tb.lead, .word s.tb.laneSec.toNat
     , .byte s.tb.p, .byte s.tb.hx, .byte s.waitingRetirements]

/-- TIME_STATUS as the port takes it. -/
def State.doTimeStatus (s : State) (tag : Byte) : State :=
  s.plainCommand tag (.timeStatus tag) false fun s => s.complete .ok s.timeStatusFields

/-- TIME_STATUS (R13). -/
def execTimeStatus (tag : Byte) (s : State) : Host.Outcome State Fault Refusal := .next (s.doTimeStatus tag)

/-- The sub-minute count advances; passing 59 it returns to 0 and calls for an internal minute tick (R2). -/
def TimeBase.second (t : TimeBase) : TimeBase :=
  let t := { t with laneSec := t.laneSec + 1 }
  if t.clock = .unset then { t with subMinute := 0 }
  else if t.subMinute ≥ 59 then { t with subMinute := 0, ticksDue := t.ticksDue + 1 }
  else { t with subMinute := t.subMinute + 1 }

/-- LANE_SECOND (R2, R96): the counts advance, and every RUNNING timer falls by one. A timer at 0 waits for its
expiry to be taken. -/
def execLaneSecond (s : State) : Host.Outcome State Fault Refusal :=
  .next { s with
    tb := s.tb.second
    lanes := s.lanes.map fun x => { x with timers := x.timers.map Timer.tick } }

/-- The effects of R3's list on the lead, the minute and the target. -/
def State.advance (s : State) : State :=
  if s.tb.lead > 0 then { s with tb := { s.tb with lead := s.tb.lead - 1 } }
  else
    match s.tb.target with
    | some t => { s with tb := { s.tb with target := some (min Config.maxMinute (t + 1)) } }
    | none => s.moveMinute (min Config.maxMinute (s.now + 1))

/-- A retirement that falls due at an internal tick meets the requests that wait already: a claim whose turn it is may be
granted before it is held (R61; notes/assumptions/33.md). -/
def State.noteClaimAhead (s : State) (held : Bool) : State :=
  { s with be := { s.be with claimAhead := if s.retirementHeld && !held then s.claimTurn else none } }

/-- INTERNAL_MINUTE_TICK (R3): taken when the lane second has called for one, in any state but UNSET. -/
def execInternalMinuteTick (s : State) : Host.Outcome State Fault Refusal :=
  if s.tb.ticksDue = 0 ∨ s.tb.clock = .unset then .next s
  else
    let t := { s with tb := { s.tb with
      ticksDue := s.tb.ticksDue - 1, sinceSync := min Config.maxSinceSync (s.tb.sinceSync + 1) } }
    .next (t.advance.checkClock.noteClaimAhead s.retirementHeld).settlePort

/-- RETIREMENT (R47): the Book Engine grants the retirement the Time Base holds. -/
def execRetirement (s : State) : Host.Outcome State Fault Refusal :=
  if s.retirementHeld then .next s.retire.settlePort else .next s

end Sys2Proof.Machine
end

