-- ==== Sys2Proof/Machine/Windows.lean ====
section
/-! DEFINITION. The window commands (3.4): WINDOW_APPEND, WINDOW_RESIZE, WINDOW_READ. -/

namespace Sys2Proof.Machine

/-- The last window of the ring. -/
def State.tail? (s : State) : Option Window := s.be.ring.getLast?

/-- WINDOW_APPEND served (R43, R44). -/
def State.serveWindowAppend (s : State) (start length cg cr : Nat) : State :=
  let w : Window :=
    { start, length, cg := min Config.maxCg cg, cr := min Config.maxCr cr, bookedG := 0, bookedR := 0
      arrived := 0, late := 0, absorbed := 0, pulledIn := 0 }
  let pastTail := match s.tail? with
    | some t => decide (start < t.finish)
    | none => false
  let ended := match s.tb.minute with
    | some n => decide (w.finish ≤ n)
    | none => false
  if !inRange 15 240 length || decide (length % 5 ≠ 0) then s.complete .badValue
  else if start > Config.maxMinute ∨ w.finish > Config.maxMinute then s.complete .badValue
  else if s.be.ring.length ≥ Config.ringSize then s.complete .full
  else if pastTail then s.complete .outOfRange
  else if ended then s.complete .outOfRange
  else if s.be.book.any fun b => decide (b.tag = start) then s.complete .duplicate
  else
    ({ s with be := { s.be with ring := s.be.ring ++ [w] } }).complete
      (okStatus (decide (cg > Config.maxCg ∨ cr > Config.maxCr)))

/-- WINDOW_APPEND as the port takes it. -/
def State.doWindowAppend (s : State) (tag : Byte) (start length cg cr : Nat) : State :=
  s.engineCommand tag (.windowAppend tag start length cg cr) true fun s => s.serveWindowAppend start length cg cr

/-- WINDOW_APPEND (R43). -/
def execWindowAppend (tag : Byte) (start length cg cr : Nat) (s : State) : Host.Outcome State Fault Refusal :=
  .next (s.doWindowAppend tag start length cg cr)

/-- A capacity after the two clamps of R45. -/
def resized (top count old : Nat) : Option Nat → Nat
  | some n => max count (min top n)
  | none => old

/-- WINDOW_RESIZE served (R45). With neither capacity given it answers OK with both as they stand (DESIGN CHOICE,
notes/assumptions/38.md). -/
def State.serveWindowResize (s : State) (start : Nat) (cg cr : Option Nat) : State :=
  match s.windowOf start with
  | none => s.complete .notFound
  | some w =>
    let g := resized Config.maxCg w.bookedG w.cg cg
    let r := resized Config.maxCr w.bookedR w.cr cr
    let changed := (cg.any fun n => decide (n ≠ g)) || cr.any fun n => decide (n ≠ r)
    (s.modWindow start fun w => { w with cg := g, cr := r }).complete (okStatus changed) [.byte g, .byte r]

/-- WINDOW_RESIZE as the port takes it. -/
def State.doWindowResize (s : State) (tag : Byte) (start : Nat) (cg cr : Option Nat) : State :=
  s.engineCommand tag (.windowResize tag start cg cr) true fun s => s.serveWindowResize start cg cr

/-- WINDOW_RESIZE (R45). -/
def execWindowResize (tag : Byte) (start : Nat) (cg cr : Option Nat) (s : State) :
    Host.Outcome State Fault Refusal :=
  .next (s.doWindowResize tag start cg cr)

/-- The place of a phase in R40's table, NO_CLOCK last. -/
def phaseByte : WinPhase → Nat
  | .planned => 0 | .running => 1 | .grace => 2 | .due => 3 | .noClock => 4

/-- The fields of a window record in 3.1's order. -/
def Window.fields (w : Window) : List Field :=
  [.minute w.start, .byte w.length, .byte w.cg, .byte w.cr, .byte w.bookedG, .byte w.bookedR
   , .word w.arrived, .word w.late, .word w.absorbed, .word w.pulledIn]

/-- A window as WINDOW_READ returns it: its record, phase, retirement minute and position. -/
def State.windowFields (s : State) (w : Window) : List Field :=
  w.fields ++ [.byte (phaseByte (s.winPhase w)), .minute (s.retireMinute w)
    , .byte (s.be.ring.findIdx fun x => decide (x.start = w.start))]

/-- The ring summary (R46). The head's start and the tail's end stand behind presence bytes, absent with an empty ring
(DESIGN CHOICE, notes/assumptions/57.md). -/
def State.ringSummary (s : State) : List Field :=
  .byte s.be.ring.length :: optField (fun w : Window => [.minute w.start]) s.be.ring.head?
    ++ optField (fun w : Window => [.minute w.finish]) s.tail? ++ [.byte s.cfg.g, .byte s.cfg.e]

/-- The last-retired record as WINDOW_READ returns it (R49). -/
def LastRetired.fields (r : LastRetired) : List Field :=
  r.window.fields ++ [.minute r.servedAt, .word r.lapsed, .byte r.abandoned]

/-- WINDOW_READ served (R46). A position at which no window stands, one above 47 included, is NOT_FOUND (DESIGN CHOICE,
notes/assumptions/38.md). -/
def State.serveWindowRead (s : State) (sel : WindowSel) : State :=
  let answer := fun w : Option Window =>
    match w with
    | some w => s.complete .ok (s.windowFields w ++ s.ringSummary)
    | none => s.complete .notFound s.ringSummary
  match sel with
  | .start n => answer (s.windowOf n)
  | .position p => answer s.be.ring[p]?
  | .running => answer s.runningWindow
  | .lastRetired =>
    match s.be.lastRetired with
    | some r => s.complete .ok (r.fields ++ s.ringSummary)
    | none => s.complete .notFound s.ringSummary

/-- WINDOW_READ as the port takes it. -/
def State.doWindowRead (s : State) (tag : Byte) (sel : WindowSel) : State :=
  s.engineCommand tag (.windowRead tag sel) false fun s => s.serveWindowRead sel

/-- WINDOW_READ (R46). -/
def execWindowRead (tag : Byte) (sel : WindowSel) (s : State) : Host.Outcome State Fault Refusal :=
  .next (s.doWindowRead tag sel)

end Sys2Proof.Machine
end

