-- ==== Sys2Proof/Machine/YardCmds.lean ====
section
/-! DEFINITION. The yard's commands and its lane request: BLOCK_SET (R183, R184), BLOCK_CONFIRM (R186), BLOCK_READ
(R187), ASSIGNMENT (R177). -/

namespace Sys2Proof.Machine

/-! ### BLOCK_SET -/

/-- The fields BLOCK_SET gives, written together; a credit is clamped. -/
def Block.write (b : Block) (op : BlockSetOp) : Block :=
  { b with
    kind := op.kind.getD b.kind, opened := op.opened.getD b.opened
    credit := (op.credit.map fun n => min Config.maxCredit n).getD b.credit
    route := op.route.getD b.route, label := op.label.getD b.label }

/-- Credit has appeared on an open block (R182). -/
def retryCause (old new : Block) (creditGiven : Bool) : Bool :=
  new.opened && (!old.opened || (creditGiven && decide (new.credit > old.credit))
    || (decide (new.kind ≠ old.kind) && decide (new.credit > 0)))

/-- The positions of a visit's moves DIRECTED to a block. -/
def Visit.directedTo (v : Visit) (b : BlockId) : List Nat :=
  positions (fun m => decide (m.state = .directed) && decide (m.block = some b)) v.moves

/-- What a closure has done so far: moves redirected, visits held with NO_YARD, moves left standing. -/
structure Closure where
  redirected : Nat
  held : Nat
  standing : Nat
  deriving DecidableEq, Repr

/-- One visit of a closure (R184). -/
def State.closeFor (b : BlockId) (acc : State × Closure) (n : Nat) : State × Closure :=
  let (s, c) := acc
  match s.writable? n with
  | none => acc
  | some v =>
    let idx := v.directedTo b
    if idx.isEmpty then acc
    else if v.stage = .released then
      (s.writeVisit n .blockClosedEnRoute id, { c with standing := c.standing + idx.length })
    else
      match s.redirect n idx with
      | (s, .redirected) => (s, { c with redirected := c.redirected + idx.length })
      | (s, .noYard) =>
        let held := (s.visit? n).any fun v => v.holdsReason .noYard
        (s, { c with held := if held then c.held + 1 else c.held })
      | (s, .noEffect) => (s, c)

/-- Inserts a number in ascending order. -/
def insertNat (n : Nat) : List Nat → List Nat
  | [] => [n]
  | m :: rest => if n ≤ m then n :: m :: rest else m :: insertNat n rest

/-- The visit numbers in use, ascending. -/
def State.visitNumbers (s : State) : List Nat :=
  (s.vt.visits.map (·.number)).foldl (fun acc n => insertNat n acc) []

/-- A block closes: its moves are redirected, or stand after release, in ascending order of visit number. -/
def State.closeBlock (s : State) (b : BlockId) : State × Closure :=
  let c : Closure := { redirected := 0, held := 0, standing := 0 }
  s.visitNumbers.foldl (State.closeFor b) (s, c)

/-- The fields of a block; open is 0 and closed 1, in the order of 9.1's list. -/
def Block.fields (b : Block) : List Field :=
  [.byte (blockKindByte b.kind), .byte (if b.opened then 0 else 1), .byte b.credit, .byte b.inTransit, .byte b.route
   , .chars b.label]

/-- BLOCK_SET served (R183): its answer gives the block as written, before any closure or walk. -/
def State.serveBlockSet (s : State) (k : Nat) (op : BlockSetOp) : State :=
  match blockOf k with
  | none => s.complete .badValue
  | some b =>
    let old := s.yd.blocks[b]
    let new := old.write op
    if outside 0 255 op.route || !optForm labelForm op.label then s.complete .badValue
    else if new.kind ≠ old.kind ∧ old.inTransit > 0 then s.complete .wrongState
    else
      let listed := s.yd.waitList.map (·.visit)
      let s := { s with yd := { s.yd with blocks := s.yd.blocks.set b new } }
      let (s, c) := if old.opened && !new.opened then s.closeBlock b
        else (s, { redirected := 0, held := 0, standing := 0 })
      let s := if retryCause old new op.credit.isSome then s.retryWalk else s
      let off := listed.countP fun n => !(s.yd.waitList.any fun e => decide (e.visit = n))
      s.complete (okStatus (outside 0 Config.maxCredit op.credit))
        (new.fields ++ [.byte c.redirected, .byte c.held, .byte c.standing, .byte off])

/-- BLOCK_SET as the port takes it. -/
def State.doBlockSet (s : State) (tag : Byte) (k : Nat) (op : BlockSetOp) : State :=
  s.plainCommand tag (.blockSet tag k op) true fun s => s.serveBlockSet k op

/-- BLOCK_SET (R183). -/
def execBlockSet (tag : Byte) (k : Nat) (op : BlockSetOp) (s : State) : Host.Outcome State Fault Refusal :=
  .next (s.doBlockSet tag k op)

/-! ### BLOCK_CONFIRM -/

/-- A DIRECTED move is confirmed: DONE, keeping its block, whose in_transit falls (R186). -/
def State.confirmMove (s : State) (n i : Nat) (b : BlockId) : State :=
  let s := { s with yd := { s.yd with blocks := modBlock s.yd.blocks b (·.settle) } }
  let f := fun m : MoveEntry => { m with state := .done }
  s.writeVisit n .direction fun v => { v with moves := v.moves.modify i f }

/-- BLOCK_CONFIRM served. -/
def State.serveBlockConfirm (s : State) (n p : Nat) : State :=
  if !inRange 1 4 p then s.complete .badValue
  else
    match s.live? n with
    | none => s.complete .notFound
    | some v =>
      if v.ending.isSome then s.complete .wrongState
      else if v.stage ≠ .released then s.complete .wrongState
      else
        match v.moves[p - 1]? with
        | none => s.complete .notFound
        | some m =>
          match m.state, m.block with
          | .directed, some b =>
            let s := s.confirmMove n (p - 1) b
            let left := v.moves.countP (fun m => decide (m.state = .directed)) - 1
            s.complete .ok [.byte b.val, .byte left]
          | _, _ => s.complete .wrongState

/-- BLOCK_CONFIRM as the port takes it. -/
def State.doBlockConfirm (s : State) (tag : Byte) (n p : Nat) : State :=
  s.plainCommand tag (.blockConfirm tag n p) true fun s => s.serveBlockConfirm n p

/-- BLOCK_CONFIRM (R186). -/
def execBlockConfirm (tag : Byte) (n p : Nat) (s : State) : Host.Outcome State Fault Refusal :=
  .next (s.doBlockConfirm tag n p)

/-! ### BLOCK_READ -/

/-- The block kinds in 9.1's order. -/
def allKinds : List BlockKind :=
  [.stackExport, .stackEmpty, .deliveryImport, .emptyIssue, .inspection, .reefer, .hazard]

/-- What every answer carries: visits on the wait list, and for each kind the credit of its open blocks. -/
def State.yardSummary (s : State) : List Field :=
  .byte s.yd.waitList.length :: allKinds.map fun k =>
    .word ((s.yd.blocks.toList.map fun b => if b.opened ∧ b.kind = k then b.credit else 0).sum)

/-- BLOCK_READ served. A refusal carries no payload (DESIGN CHOICE, notes/assumptions/52.md). -/
def State.serveBlockRead (s : State) (sel : BlockSel) : State :=
  match sel with
  | .block k =>
    match blockOf k with
    | none => s.complete .badValue
    | some b => s.complete .ok ((s.yd.blocks[b]).fields ++ s.yardSummary)
  | .all => s.complete .ok (s.yd.blocks.toList.flatMap Block.fields ++ s.yardSummary)
  | .waitList =>
    s.complete .ok (listField (fun e : WaitEntry => [.word e.visit, .byte (blockKindByte e.kind)]) s.yd.waitList
      ++ s.yardSummary)

/-- BLOCK_READ as the port takes it. -/
def State.doBlockRead (s : State) (tag : Byte) (sel : BlockSel) : State :=
  s.plainCommand tag (.blockRead tag sel) false fun s => s.serveBlockRead sel

/-- BLOCK_READ (R187). -/
def execBlockRead (tag : Byte) (sel : BlockSel) (s : State) : Host.Outcome State Fault Refusal :=
  .next (s.doBlockRead tag sel)

/-! ### ASSIGNMENT -/

/-- The Yard Director takes a lane's direction request and the lane acts on the answer, or keeps it when stopped
(R177, R143, R152). -/
def State.assignLane (s : State) (l : LaneId) : State :=
  let x := s.lane l
  if x.request ≠ .direction then s
  else
    let clear := fun s : State => s.modLane l fun x => { x with request := .none }
    match x.visit with
    | none => clear s
    | some n =>
      let (s, r) := s.assign n .direction
      let s := clear s
      if (s.lane l).isStopped then s.keepAnswer l (.direction r.toLane) else s.takeDirection l r.toLane

/-- ASSIGNMENT (R177); with no direction request in flight at the lane there is nothing to take. -/
def execAssignment (l : LaneId) (s : State) : Host.Outcome State Fault Refusal := .next (s.assignLane l)

end Sys2Proof.Machine
end

