-- ==== Sys2Proof/Machine/Frame.lean ====
section
/-! DEFINITION. The Control Port's transactions (11.1): COMMAND_FRAME, whose frame is judged and whose operands are
read as R207 lays them out, and FETCH with the bytes of a response frame. Where R207 leaves a width or a mark
open, the choice is the model's (DESIGN CHOICE, notes/assumptions/21.md). -/

namespace Sys2Proof.Machine

/-! ### Reading operands (R207) -/

/-- A reader of operands: it takes bytes from the front, or finds that they do not decode. -/
abbrev Get := StateT (List Byte) Option

/-- One byte. -/
def getByte : Get Byte := fun l =>
  match l with
  | b :: rest => some (b, rest)
  | [] => none

/-- A number of `k` bytes, high byte first. -/
def getNum : Nat → Get Nat
  | 0 => pure 0
  | k + 1 => do
    let b ← getByte
    let n ← getNum k
    pure (b.toNat * 256 ^ k + n)

/-- The operands do not decode. -/
def getFail {α : Type} : Get α := fun _ => none

/-- An enumerated value: its place in a list. -/
def getEnum {α : Type} (l : List α) : Get α := do
  let b ← getByte
  match l[b.toNat]? with
  | some a => pure a
  | none => getFail

/-- A mark: 0 absent, 1 present. -/
def getMark : Get Bool := getEnum [false, true]

/-- An optional operand, behind its presence byte. -/
def getOpt {α : Type} (p : Get α) : Get (Option α) := do
  if ← getMark then some <$> p else pure none

/-- So many items. -/
def getMany {α : Type} (p : Get α) : Nat → Get (List α)
  | 0 => pure []
  | k + 1 => do
    let a ← p
    let l ← getMany p k
    pure (a :: l)

/-- A list behind its count byte. -/
def getList {α : Type} (p : Get α) : Get (List α) := do
  getMany p (← getByte).toNat

/-- A character field behind its count byte. -/
def getText : Get Text := getList getByte

/-- So many items as a vector. -/
def getVec {α : Type} (p : Get α) : (n : Nat) → Get (Vector α n)
  | 0 => pure #v[]
  | n + 1 => do
    let v ← getVec p n
    let a ← p
    pure (v.push a)

/-- A gate minute. -/
def getMinute : Get Nat := getNum 3

/-- A move with its fields. -/
def getMove : Get BookMove := do
  let kind ← getEnum [MoveKind.exportDrop, .emptyReturn, .importPick, .emptyPick]
  let container ← getOpt getText
  let release ← getOpt getText
  let size ← getOpt (getNum 1)
  let seals ← getList getText
  pure { kind, container, release, size, seals }

/-- A pool. -/
def getPool : Get Pool := getEnum [.general, .reserve]

/-- A special. -/
def getSpecial : Get Special := getEnum [.plain, .reefer, .hazard, .reeferHazard]

/-- A new booking, in R29's order. -/
def getBooking : Get NewBooking := do
  let ref ← getText
  let carrier ← getText
  let plate ← getOpt getText
  let card ← getOpt getText
  let tag ← getMinute
  let pool ← getPool
  let special ← getSpecial
  let moves ← getList getMove
  let preferred ← getOpt (getNum 1)
  pure { ref, carrier, plate, card, tag, pool, special, moves, preferred }

/-- An amendable text: 0 absent, 1 given, 2 the clear mark. -/
def getAmend : Get Amend := do
  match (← getByte).toNat with
  | 0 => pure .keep
  | 1 => Amend.put <$> getText
  | 2 => pure .clear
  | _ => getFail

/-- An amendable preferred block, marked as `getAmend` reads it. -/
def getAmendBlock : Get AmendBlock := do
  match (← getByte).toNat with
  | 0 => pure .keep
  | 1 => AmendBlock.put <$> getNum 1
  | 2 => pure .clear
  | _ => getFail

/-- An amendment, in R31's order. -/
def getAmendment : Get Amendment := do
  let plate ← getAmend
  let card ← getAmend
  let tag ← getOpt getMinute
  let pool ← getOpt getPool
  let special ← getOpt getSpecial
  let moves ← getOpt (getList getMove)
  let preferred ← getAmendBlock
  pure { plate, card, tag, pool, special, moves, preferred }

/-- The key of BOOK_FIND: its place in R35's list, then the key. -/
def getFindKey : Get FindKey := do
  match (← getByte).toNat with
  | 0 => FindKey.ref <$> getText
  | 1 => FindKey.plate <$> getText
  | 2 => FindKey.card <$> getText
  | _ => getFail

/-- The form of BOOK_PURGE: by ref, or below a minute. -/
def getPurge : Get PurgeForm := do
  match (← getByte).toNat with
  | 0 => PurgeForm.ref <$> getText
  | 1 => PurgeForm.minute <$> getMinute
  | _ => getFail

/-- The selector of WINDOW_READ, in the order of R46's table. -/
def getWindowSel : Get WindowSel := do
  match (← getByte).toNat with
  | 0 => WindowSel.start <$> getMinute
  | 1 => WindowSel.position <$> getNum 1
  | 2 => pure .running
  | 3 => pure .lastRetired
  | _ => getFail

/-- The selector of VISIT_READ, in the order of R84's table. -/
def getVisitSel : Get VisitSel := do
  match (← getByte).toNat with
  | 0 => VisitSel.number <$> getNum 2
  | 1 => VisitSel.lane <$> getNum 1
  | 2 => VisitSel.desk <$> getNum 1
  | 3 => VisitSel.staging <$> getNum 1
  | _ => getFail

/-- The selector of BLOCK_READ, in the order of R187's table. -/
def getBlockSel : Get BlockSel := do
  match (← getByte).toNat with
  | 0 => BlockSel.block <$> getNum 1
  | 1 => pure .all
  | 2 => pure .waitList
  | _ => getFail

/-- A hold reason, in the order of R75's table. -/
def getReason : Get HoldReason :=
  getEnum [.noBooking, .carrier, .driver, .noSlot, .badSeal, .damage, .axleCheck, .noYard, .withdrawn, .clerk
    , .linkDown, .timeout]

/-- A polarity. -/
def getPolarity : Get Polarity := getEnum [.normal, .inverted]

/-- The settings of LANE_CONFIG, in the order of R108's table: the six polarities and then the six modes, each behind its
own presence byte. SAMPLE is sent as its value, LINK_RATE as its place in its list (DESIGN CHOICE, notes/assumptions/21.md). -/
def getLaneConfig : Get LaneConfigOp := do
  let polarity ← getVec (getOpt getPolarity) 6
  let mode ← getVec (getOpt (getEnum [DetectMode.off, .level, .rise, .fall, .both])) 6
  let sample ← getOpt (getNum 1)
  let depth ← getOpt (getNum 1)
  let raiseLimit ← getOpt (getNum 1)
  let axleTwinMin ← getOpt (getNum 1)
  let parkAfter ← getOpt (getNum 1)
  let pedestalLimit ← getOpt (getNum 2)
  let holdLimit ← getOpt (getNum 2)
  let clearLimit ← getOpt (getNum 1)
  let linkRate ← getOpt (getEnum [9600, 19200, 38400])
  pure { polarity, mode, sample, depth, raiseLimit, axleTwinMin, parkAfter, pedestalLimit, holdLimit, clearLimit
         linkRate }

/-- A bit of a mask byte. -/
def bitOf (b : Byte) (k : Nat) : Bool := b.getLsbD k

/-- The link flags a mask byte names, from bit 0 in R126's order. Bits 5 to 7 name no flag and are ignored, so that a
mask of them alone counts as empty (DESIGN CHOICE, notes/assumptions/38.md). -/
def linkMaskOf (b : Byte) : LinkMask :=
  { parity := bitOf b 0, frame := bitOf b 1, badMsg := bitOf b 2, brk := bitOf b 3, overrun := bitOf b 4 }

/-- The gate flags a mask byte names, from bit 0 in R202's order. -/
def gateMaskOf (b : Byte) : GateMask :=
  { clockChanged := bitOf b 0, syncReject := bitOf b 1, stopAll := bitOf b 2, laneFault := bitOf b 3
    linkOffline := bitOf b 4, troubleFull := bitOf b 5, portFault := bitOf b 6 }

/-- The optional mask of LANE_STATUS. -/
def getLinkMask : Get LinkMask := do
  pure (((← getOpt getByte).map linkMaskOf).getD noLinkFlags)

/-- The optional mask of GATE_STATUS. -/
def getGateMask : Get GateMask := do
  pure (((← getOpt getByte).map gateMaskOf).getD noGateFlags)

/-- A finding: a zone in the order of R165's table, and a severity. -/
def getFinding : Get Finding := do
  let zone ← getEnum [Zone.front, .doorEnd, .left, .right, .roof, .underside, .cornerPosts]
  let severity ← getNum 1
  pure { zone, severity }

/-- The fields of BLOCK_SET, in R183's order. -/
def getBlockSet : Get BlockSetOp := do
  let opened ← getOpt (getEnum [true, false])
  let credit ← getOpt (getNum 2)
  let route ← getOpt (getNum 2)
  let label ← getOpt getText
  let kind ← getOpt (getEnum [BlockKind.stackExport, .stackEmpty, .deliveryImport, .emptyIssue, .inspection, .reefer, .hazard])
  pure { opened, credit, route, label, kind }

/-- The settings of SETTINGS_WRITE, in the order of R205's table. Its seven zone weights are seven optional operands, each
behind its own presence byte (DESIGN CHOICE, notes/assumptions/21.md). -/
def getSettings : Get SettingsOp := do
  let p ← getOpt (getNum 1)
  let hx ← getOpt (getNum 1)
  let e ← getOpt (getNum 1)
  let g ← getOpt (getNum 1)
  let stopMode ← getOpt (getEnum [StopMode.hold, .lowerIfClear])
  let restart ← getOpt (getEnum [Restart.auto, .byCommand])
  let stopPolarity ← getOpt getPolarity
  let stopInput ← getOpt (getEnum [DetectMode.both, .off])
  let sealWindow ← getOpt (getNum 1)
  let damageWindow ← getOpt (getNum 1)
  let weights ← getVec (getOpt (getNum 1)) 7
  let tInspect ← getOpt (getNum 1)
  let tHold ← getOpt (getNum 1)
  pure { p, hx, e, g, stopMode, restart, stopPolarity, stopInput, sealWindow, damageWindow, weights, tInspect, tHold }

/-! ### The commands by their codes (11.5) -/

/-- The operands of the time, window and book commands, by code. -/
def getBookCommand (code : Nat) (tag : Byte) : Get Instr := do
  match code with
  | 1 => .timeSet tag <$> getMinute
  | 2 => .timeSync tag <$> getMinute
  | 3 => pure (.timeStatus tag)
  | 4 => .windowAppend tag <$> getMinute <*> getNum 1 <*> getNum 2 <*> getNum 1
  | 5 => .windowResize tag <$> getMinute <*> getOpt (getNum 2) <*> getOpt (getNum 1)
  | 6 => .windowRead tag <$> getWindowSel
  | 7 => .bookAdd tag <$> getBooking
  | 8 => .bookAmend tag <$> getText <*> getAmendment
  | 9 => .bookCancel tag <$> getText
  | 10 => .bookReinstate tag <$> getText
  | 11 => .bookFind tag <$> getFindKey
  | 12 => .bookPurge tag <$> getPurge
  | 13 => .carrierSet tag <$> getText <*> getEnum [.active, .suspended, .remove]
  | _ => getFail

/-- The operands of the lane, check and visit commands, by code. -/
def getLaneCommand (code : Nat) (tag : Byte) : Get Instr := do
  match code with
  | 14 => .laneConfig tag <$> getNum 1 <*> getLaneConfig
  | 15 => .laneOpen tag <$> getNum 1
  | 16 => do
    let lane ← getNum 1
    if ← getMark then pure (.laneCloseForce tag lane) else pure (.laneClose tag lane)
  | 17 => .laneRecover tag <$> getNum 1
  | 18 => .laneStatus tag <$> getNum 1 <*> getLinkMask
  | 19 => .plateReport tag <$> getNum 1 <*> getText
  | 20 => do
    let visit ← getNum 2
    let sealNo ← getText
    let slot ← getOpt (getNum 1)
    if ← getMark then pure (.sealReportVoid tag visit sealNo slot) else pure (.sealReport tag visit sealNo slot)
  | 21 => .damageReport tag <$> getNum 2 <*> getOpt (getNum 1) <*> getList getFinding
  | 22 => .damageDone tag <$> getNum 2
  | 23 => pure (.stopAllSet tag)
  | 24 => pure (.stopAllClear tag)
  | 25 => .visitRead tag <$> getVisitSel
  | 26 => pure (.takeChanged tag)
  | 27 => .holdPlace tag <$> getNum 2 <*> getReason <*> getOpt (getNum 1)
  | 28 => .holdRelease tag <$> getNum 2 <*> getReason <*> getOpt (getNum 1)
  | _ => getFail

/-- The operands of the yard, desk and gate commands, by code. -/
def getGateCommand (code : Nat) (tag : Byte) : Get Instr := do
  match code with
  | 29 => .blockConfirm tag <$> getNum 2 <*> getNum 1
  | 30 => .visitClose tag <$> getNum 2
  | 31 => .blockSet tag <$> getNum 1 <*> getBlockSet
  | 32 => .blockRead tag <$> getBlockSel
  | 33 => .deskTake tag <$> getNum 1
  | 34 => .deskRetry tag <$> getNum 1
  | 35 => .deskRebook tag <$> getNum 1 <*> getText <*> getMinute
  | 36 => .deskSend tag <$> getNum 1
  | 37 => .deskTurnBack tag <$> getNum 1
  | 38 => .deskReturn tag <$> getNum 1
  | 39 => .settingsWrite tag <$> getSettings
  | 40 => pure (.settingsRead tag)
  | 41 => .gateStatus tag <$> getGateMask
  | 42 => pure (.clearFault tag)
  | 43 => pure (.gateReset tag)
  | _ => getFail

/-- The command a code, a tag and a payload spell: none where the operands do not decode, a byte left unread
included (R200). -/
def readCommand (code : Nat) (tag : Byte) (payload : List Byte) : Option Instr :=
  let p := if code ≤ 13 then getBookCommand code tag
    else if code ≤ 28 then getLaneCommand code tag
    else getGateCommand code tag
  match p payload with
  | some (c, []) => some c
  | _ => none

/-- The code names a command (R207). -/
def knownCode (code : Nat) : Bool := inRange 1 43 code

/-- The code names a reading command (11.5); LANE_STATUS counts as one where its operands do not decode. -/
def readingCode (code : Nat) : Bool := decide (code ∈ [3, 6, 11, 18, 25, 26, 32, 40, 41, 42])

/-- A frame's command goes the way of its row. -/
def State.runHost (s : State) (c : Instr) : State :=
  match c with
  | .timeSet t m => s.doTimeSet t m
  | .timeSync t m => s.doTimeSync t m
  | .timeStatus t => s.doTimeStatus t
  | .windowAppend t st len cg cr => s.doWindowAppend t st len cg cr
  | .windowResize t st cg cr => s.doWindowResize t st cg cr
  | .windowRead t sel => s.doWindowRead t sel
  | .bookAdd t b => s.doBookAdd t b
  | .bookAmend t r a => s.doBookAmend t r a
  | .bookCancel t r => s.doBookCancel t r
  | .bookReinstate t r => s.doBookReinstate t r
  | .bookFind t k => s.doBookFind t k
  | .bookPurge t f => s.doBookPurge t f
  | .carrierSet t k a => s.doCarrierSet t k a
  | .holdPlace t v r d => s.doHoldPlace t v r d
  | .holdRelease t v r d => s.doHoldRelease t v r d
  | .visitClose t v => s.doVisitClose t v
  | .takeChanged t => s.doTakeChanged t
  | .visitRead t sel => s.doVisitRead t sel
  | .laneConfig t l op => s.doLaneConfig t l op
  | .laneOpen t l => s.doLaneOpen t l
  | .laneClose t l => s.doLaneClose t l
  | .laneCloseForce t l => s.doLaneCloseForce t l
  | .laneRecover t l => s.doLaneRecover t l
  | .laneStatus t l m => s.doLaneStatus t l m
  | .plateReport t l p => s.doPlateReport t l p
  | .sealReport t v n k => s.doSealReport t v n k
  | .sealReportVoid t v n k => s.doSealVoid t v n k
  | .damageReport t v k fs => s.doDamageReport t v k fs
  | .damageDone t v => s.doDamageDone t v
  | .stopAllSet t => s.doStopAllSet t
  | .stopAllClear t => s.doStopAllClear t
  | .blockSet t b op => s.doBlockSet t b op
  | .blockConfirm t v p => s.doBlockConfirm t v p
  | .blockRead t sel => s.doBlockRead t sel
  | .deskTake t d => s.doDeskTake t d
  | .deskRetry t d => s.doDeskRetry t d
  | .deskRebook t d r st => s.doDeskRebook t d r st
  | .deskSend t d => s.doDeskSend t d
  | .deskTurnBack t d => s.doDeskTurnBack t d
  | .deskReturn t d => s.doDeskReturn t d
  | .settingsWrite t op => s.doSettingsWrite t op
  | .settingsRead t => s.doSettingsRead t
  | .gateStatus t m => s.doGateStatus t m
  | .clearFault t => s.doClearFault t
  | .gateReset t => s.doGateReset t
  | _ => s

/-! ### COMMAND_FRAME (R199, R200) -/

/-- The first failure of form of a command frame. -/
def malformed (frame : List Byte) : Bool :=
  match frame with
  | _ :: _ :: hi :: lo :: _ :: _ =>
    let len := hi.toNat * 256 + lo.toNat
    decide (frame.length ≠ 5 + len) || decide (len > Config.maxPayload) || decide (byteSum frame ≠ 0)
  | _ => true

/-- The tag of a frame, if that byte was received, and 0 otherwise. -/
def frameTag (frame : List Byte) : Byte := frame[1]?.getD 0

/-- A frame that sets PORT_FAULT is answered, or lost with no place for its answer (R200, R201). -/
def State.refuseFrame (s : State) (tag : Byte) (st : Status) (c : PortFaultCause) : State :=
  if s.portFull then s.flagPortFault .responseLost else (s.flagPortFault c).respond tag st []

/-- A well-formed frame with a known code: lost, BUSY, PORT_FAULT, BAD_VALUE for operands that do not decode, or on
to its command (R200, R201). -/
def State.decideFrame (s : State) (code : Nat) (tag : Byte) (payload : List Byte) : State :=
  if s.portFull then s.flagPortFault .responseLost
  else if s.cp.inProgress.isSome then s.respond tag .busy []
  else
    match readCommand code tag payload with
    | some c => s.runHost c
    | none =>
      if s.cp.flags.portFault && !readingCode code then s.respond tag .portFault []
      else s.respond tag .badValue []

/-- The payload of a well-formed frame. -/
def framePayload (frame : List Byte) : List Byte := (frame.drop 4).dropLast

/-- The frame of a COMMAND transaction is judged as the select line is withdrawn. -/
def State.takeFrame (s : State) (frame : List Byte) : State :=
  if malformed frame then s.refuseFrame (frameTag frame) .badFrame .badFrame
  else
    let code := (frame[0]?.getD 0).toNat
    if knownCode code then s.decideFrame code (frameTag frame) (framePayload frame)
    else s.refuseFrame (frameTag frame) .unknownCommand .unknownCommand

/-! ### FETCH (R201) -/

/-- The value of a status (11.6). -/
def statusByte : Status → Nat
  | .ok => 0 | .okClamped => 1 | .busy => 2 | .portFault => 3 | .badFrame => 4 | .unknownCommand => 5
  | .badValue => 6 | .badContainer => 7 | .notFound => 8 | .duplicate => 9 | .full => 10 | .noRoom => 11
  | .wrongState => 12 | .clockUnset => 13 | .outOfRange => 14 | .empty => 15

/-- The bytes of a payload item. -/
def Field.bytes : Field → List Byte
  | .byte n => beBytes 1 n
  | .word n => beBytes 2 n
  | .minute n => beBytes 3 n
  | .chars t => countedText t
  | .absent => [0]
  | .present => [1]

/-- A response frame. -/
def Response.frame (r : Response) : List Byte :=
  let payload := r.payload.flatMap Field.bytes
  let body := r.tag :: BitVec.ofNat 8 (statusByte r.status) :: (beBytes 2 payload.length ++ payload)
  body ++ [-(byteSum body)]

/-- The bytes a FETCH would clock out in full: the count of responses, then the oldest. -/
def State.fetchBytes (s : State) : List Byte :=
  BitVec.ofNat 8 s.cp.responses.length :: match s.cp.responses with
    | r :: _ => r.frame
    | [] => []

/-- A FETCH of so many bytes after the type byte: the oldest response leaves if its last byte was clocked out. R201 does not
say what SDO carries past that byte, and no byte is recorded there (DESIGN CHOICE, notes/assumptions/75.md). -/
def State.fetch (s : State) (clocked : Nat) : State :=
  let out := s.fetchBytes
  { s with cp := { s.cp with
    fetchOut := out.take clocked
    responses := if out.length ≤ clocked then s.cp.responses.tail else s.cp.responses } }

/-- FETCH (R201). -/
def execFetch (clocked : Nat) (s : State) : Host.Outcome State Fault Refusal := .next (s.fetch clocked)

/-- The bytes SDO carries in a transaction. -/
def State.clockOut (s : State) (out : List Byte) : State := { s with cp := { s.cp with fetchOut := out } }

/-- COMMAND_FRAME (R199, R200): a transaction, by its type byte. During a COMMAND transaction SDO carries bytes of value
0; in one of an unknown type byte what R200 does not give (notes/assumptions/28.md). -/
def execCommandFrame (typeByte : Byte) (frame : List Byte) (s : State) : Host.Outcome State Fault Refusal :=
  .next (if typeByte = 1 then (s.clockOut (List.replicate frame.length 0)).takeFrame frame
    else if typeByte = 2 then s.fetch frame.length
    else (s.clockOut ((List.range frame.length).map (Config.unknownTypeByte typeByte))).refuseFrame
      (frameTag frame) .badFrame .badFrame)

end Sys2Proof.Machine
end

