-- ==== Sys2Proof/Machine/Pedestal.lean ====
section
/-! DEFINITION. The events of a pedestal link (chapter 6). A link whose lane lies above the strap is not operated
(R127). A message row is a whole message as the receiver completes it; a CHARACTER_RECEIVED builds one character by
character. -/

namespace Sys2Proof.Machine

/-- The receiver of a link takes characters: its lane is strapped and no break is being seen (R115, R127). -/
def State.listening (s : State) (l : LaneId) : Bool :=
  s.strapped l && decide ((s.lane l).link.rx ≠ .breakSeen)

/-- A complete message is accepted and the receiver returns to HUNT. -/
def State.completeMsg (s : State) (l : LaneId) (m : InMsg) : State :=
  (s.modLink l fun k => { k with rx := .hunt, assembly := [] }).acceptMsg l m

/-- A whole message arrives: accepted if its payload fits its kind, and discarded with BADMSG if not (R118). -/
def State.receiveMsg (s : State) (l : LaneId) (m : InMsg) : State :=
  if s.listening l then
    match fitMsg m with
    | some m => s.completeMsg l m
    | none => s.rxFault l (MsgFault.flags .payload)
  else s

/-- CARD (R136). -/
def execCard (l : LaneId) (t : Text) (s : State) : Host.Outcome State Fault Refusal :=
  .next (s.receiveMsg l (.card t))

/-- KEYED_REF (R136). -/
def execKeyedRef (l : LaneId) (t : Text) (s : State) : Host.Outcome State Fault Refusal :=
  .next (s.receiveMsg l (.keyedRef t))

/-- KEYED_CONTAINER (R151, R22). -/
def execKeyedContainer (l : LaneId) (t : Text) (slot : Option Nat) (s : State) : Host.Outcome State Fault Refusal :=
  .next (s.receiveMsg l (.keyedContainer t slot))

/-- SEAL_READ (R151, R157). -/
def execSealRead (l : LaneId) (t : Text) (slot : Option Nat) (s : State) : Host.Outcome State Fault Refusal :=
  .next (s.receiveMsg l (.sealRead t slot))

/-- PRESS (R140, R145, R149, R151). -/
def execPress (l : LaneId) (k : Key) (s : State) : Host.Outcome State Fault Refusal :=
  .next (s.receiveMsg l (.press k))

/-- KIOSK_HELLO (R116). -/
def execKioskHello (l : LaneId) (s : State) : Host.Outcome State Fault Refusal := .next (s.receiveMsg l .hello)

/-- MESSAGE_FAULT (R118): what is being received is discarded whole, with the sticky flags of its fault. -/
def execMessageFault (l : LaneId) (f : MsgFault) (s : State) : Host.Outcome State Fault Refusal :=
  .next (if s.listening l then s.rxFault l (MsgFault.flags f) else s)

/-- GAP_LIMIT (R117): a message in assembly is discarded with BADMSG. -/
def execGapLimit (l : LaneId) (s : State) : Host.Outcome State Fault Refusal :=
  .next (if s.strapped l && decide ((s.lane l).link.rx = .inMessage) then
    s.rxFault l { noLinkFlags with badMsg := true } else s)

/-- A break is detected (R115): on an ONLINE link it becomes OFFLINE, LINK_OFFLINE is set, the outbound side and
the receive buffer are emptied, and tickets lost are reported (R123). -/
def State.breakSeen (s : State) (l : LaneId) : State :=
  let s := s.modLink l fun k => { k with rx := .breakSeen, assembly := [] }
  let s := s.setLinkFlags l { noLinkFlags with brk := true }
  if (s.lane l).link.online then
    let (k, rs) := (s.lane l).link.drop
    ((s.modLane l fun x => { x with link := k }).flagLinkOffline).reportTickets l rs
  else s

/-- BREAK (R115): a line that stays low gives one break. -/
def execLineBreak (l : LaneId) (s : State) : Host.Outcome State Fault Refusal :=
  .next (if s.listening l then s.breakSeen l else s)

/-- BREAK_END (R115): the line has read high for a character time. -/
def execBreakEnd (l : LaneId) (s : State) : Host.Outcome State Fault Refusal :=
  .next (if s.strapped l && decide ((s.lane l).link.rx = .breakSeen) then
    s.modLink l fun k => { k with rx := .hunt } else s)

/-- CTS_ASSERT (R122): the head message begins if it may. -/
def execCtsAssert (l : LaneId) (s : State) : Host.Outcome State Fault Refusal :=
  .next (s.modLink l fun k => Link.advance { k with cts := true })

/-- MESSAGE_SENT (R113): the message in transmission has left the link, the next head is considered, and a TICKET is
reported SENT. -/
def execMessageSent (l : LaneId) (s : State) : Host.Outcome State Fault Refusal :=
  match (s.lane l).link.tx with
  | none => .next s
  | some t =>
    .next ((s.modLink l fun k => Link.advance { k with tx := none }).reportTickets l (t.msg.report .sent))

/-- A character reaches the receiver in IN_MESSAGE without a line error (R117, R118). -/
def State.addChar (s : State) (l : LaneId) (b : Byte) : State :=
  let chars := (s.lane l).link.assembly ++ [b]
  let len := (chars[2]?.getD 0).toNat
  let s := s.modLink l fun k => { k with assembly := chars }
  if chars.length ≥ 3 ∧ len > Config.maxInbound then s.rxFault l (MsgFault.flags .length)
  else if chars.length ≥ 4 + len ∧ chars.length ≥ 4 then
    match checkMsg chars with
    | .ok m => s.completeMsg l m
    | .error f => s.rxFault l (MsgFault.flags f)
  else s

/-- CHARACTER_RECEIVED (R117, R118): by the receiver's state. No row is given for the character whose low stop bit begins a
break, which is no framing error (R115): LINE_BREAK stands for it (DESIGN CHOICE, notes/assumptions/29.md). -/
def execCharacterReceived (l : LaneId) (b : Byte) (parityBit stopBit : Bool) (s : State) :
    Host.Outcome State Fault Refusal :=
  let bad : LinkMask := { noLinkFlags with parity := !parityOk b parityBit, frame := !stopBit }
  if !s.listening l then .next s
  else if LinkMask.any bad then .next (s.rxFault l bad)
  else
    match (s.lane l).link.rx with
    | .inMessage => .next (s.addChar l b)
    | _ =>
      if b = Config.startChar then
        .next (s.modLink l fun k => { k with rx := .inMessage, assembly := [b] })
      else .next s

/-- CTS_DEASSERT (R122): a message begun is finished all the same. -/
def execCtsDeassert (l : LaneId) (s : State) : Host.Outcome State Fault Refusal :=
  .next (s.modLink l fun k => { k with cts := false })

end Sys2Proof.Machine
end

