-- ==== Sys2Proof/Machine/Sensing.lean ====
section
/-! DEFINITION. The input events (5.1, 5.2): a row is the sample at which the filter accepts a change, DEPTH samples
after the level moved (R90), with its stamp and counts (R92, R93), the withdrawal it completes (R97), and the
lane machine's part. Where the input cannot give that change (it reads so already, its mode does not report it,
it is OFF, or the lane lies above the strap) nothing happens. -/

namespace Sys2Proof.Machine

/-- One sample of an input's filter (R90). -/
def Filter.sample (depth : Nat) (f : Filter) (level : Bool) : Filter :=
  if level = f.level then { f with run := 0 }
  else if f.run + 1 ≥ depth then { level, run := 0 }
  else { f with run := f.run + 1 }

/-- The filter after DEPTH samples that agree on a level. -/
def Filter.settle (depth : Nat) (f : Filter) (level : Bool) : Filter :=
  (List.replicate depth level).foldl (Filter.sample depth) f

/-- A loop's stamps at an OCCUPY (R92). -/
def Stamps.write (t : Stamps) (now : LaneSec) : Stamps := { current := some now, previous := t.current.or t.previous }

/-- The place of a loop among the stamps. -/
def stampIdx : Input → Option (Fin 4)
  | .approach => some 0 | .stop => some 1 | .boom => some 2 | .exit => some 3 | _ => none

/-- The stamp and the occupy count that an event writes in every lane state (R92, R93). -/
def Lane.note (x : Lane) (now : LaneSec) (i : Input) (active : Bool) : Lane :=
  if !active then x
  else
    let x := match stampIdx i with
      | some k => { x with stamps := x.stamps.set k (x.stamps[k].write now) }
      | none => x
    if i = .boom then { x with boomCount := min Config.maxCount4 (x.boomCount + 1) } else x

/-- The change an input's filter accepts: the filter's new state, if DEPTH samples of a level change it. -/
def Lane.accepts (x : Lane) (i : Input) (active : Bool) : Option Filter :=
  let f := x.filters[inputIdx i]
  let g := Filter.settle x.cfg.depth f active
  if x.cfg.mode[inputIdx i] ≠ .off ∧ g.level ≠ f.level then some g else none

/-- The filtered level changes; a BOOM loop accepted clear completes a pending withdrawal, whatever its mode and
the lane state (R97). -/
def Lane.setFilter (x : Lane) (i : Input) (f : Filter) : Lane :=
  let x := { x with filters := x.filters.set (inputIdx i) f }
  if i = .boom ∧ !f.level then { x with output := x.output.boomClear } else x

/-- The mode of an input reports a change to a level. -/
def Lane.reports (x : Lane) (i : Input) (active : Bool) : Bool := DetectMode.reports x.cfg.mode[inputIdx i] active

/-- An input change a lane's mode reports. -/
def State.inputEvent (s : State) (l : LaneId) (i : Input) (active : Bool) : State :=
  let x := s.lane l
  if s.strapped l && x.reports i active then
    match x.accepts i active with
    | some f => (s.setLane l ((x.setFilter i f).note s.tb.laneSec i active)).laneEvent l i active
    | none => s
  else s

/-- APPROACH_OCCUPY (R133). -/
def execApproachOccupy (l : LaneId) (s : State) : Host.Outcome State Fault Refusal :=
  .next (s.inputEvent l .approach true)

/-- APPROACH_VACATE (R105, R106, R133). -/
def execApproachVacate (l : LaneId) (s : State) : Host.Outcome State Fault Refusal :=
  .next (s.inputEvent l .approach false)

/-- STOP_OCCUPY (R134). -/
def execStopOccupy (l : LaneId) (s : State) : Host.Outcome State Fault Refusal :=
  .next (s.inputEvent l .stop true)

/-- STOP_VACATE (R134). -/
def execStopVacate (l : LaneId) (s : State) : Host.Outcome State Fault Refusal :=
  .next (s.inputEvent l .stop false)

/-- BOOM_OCCUPY (R93). -/
def execBoomOccupy (l : LaneId) (s : State) : Host.Outcome State Fault Refusal :=
  .next (s.inputEvent l .boom true)

/-- BOOM_VACATE (R147, R97). -/
def execBoomVacate (l : LaneId) (s : State) : Host.Outcome State Fault Refusal :=
  .next (s.inputEvent l .boom false)

/-- EXIT_OCCUPY (R92). -/
def execExitOccupy (l : LaneId) (s : State) : Host.Outcome State Fault Refusal :=
  .next (s.inputEvent l .exit true)

/-- EXIT_VACATE (R147). -/
def execExitVacate (l : LaneId) (s : State) : Host.Outcome State Fault Refusal :=
  .next (s.inputEvent l .exit false)

/-- The level a PULSE brings the treadle to: the one its mode reports, or in BOTH the other one (R86). -/
def Lane.pulseLevel (x : Lane) : Bool :=
  match x.cfg.mode[inputIdx .axle] with
  | .rise => true
  | .fall => false
  | _ => !x.filters[inputIdx .axle].level

/-- The unreported change a treadle in RISE or FALL has made since its last PULSE, where no LEVEL_CHANGE gave it
(notes/assumptions/6.md). -/
def State.rearmTreadle (s : State) (l : LaneId) : State :=
  let x := s.lane l
  let f := x.filters[inputIdx .axle]
  if s.strapped l && x.reports .axle x.pulseLevel && decide (f.level = x.pulseLevel) then
    s.setLane l (x.setFilter .axle (Filter.settle x.cfg.depth f (!x.pulseLevel)))
  else s

/-- PULSE (R94): the treadle's level changes, in a direction its mode reports (R86). -/
def execPulse (l : LaneId) (s : State) : Host.Outcome State Fault Refusal :=
  .next ((s.rearmTreadle l).inputEvent l .axle (s.lane l).pulseLevel)

/-- UP (R98, R100). -/
def execUp (l : LaneId) (s : State) : Host.Outcome State Fault Refusal := .next (s.inputEvent l .boomUp true)

/-- DOWN (R100). -/
def execDown (l : LaneId) (s : State) : Host.Outcome State Fault Refusal := .next (s.inputEvent l .boomUp false)

/-- LEVEL_CHANGE (R86, R90, R97): an accepted change the input's mode does not report. -/
def execLevelChange (l : LaneId) (i : Input) (active : Bool) (s : State) : Host.Outcome State Fault Refusal :=
  let x := s.lane l
  if s.strapped l && !x.reports i active then
    match x.accepts i active with
    | some f => .next (s.setLane l (x.setFilter i f))
    | none => .next s
  else .next s

/-- The stop-all input accepted at a level, the input not OFF (R87, R90). -/
def State.stopInputEvent (s : State) (active : Bool) : State :=
  let f := s.stop.filter
  let g := Filter.settle Config.stopDepth f active
  if s.cfg.stopInput ≠ .off ∧ g.level ≠ f.level then
    (State.setStop { s with stop := { s.stop with filter := g } } fun x => { x with inputSource := active })
  else s

/-- STOP_ON (R101). -/
def execStopOn (s : State) : Host.Outcome State Fault Refusal := .next (s.stopInputEvent true)

/-- STOP_OFF (R101). -/
def execStopOff (s : State) : Host.Outcome State Fault Refusal := .next (s.stopInputEvent false)

end Sys2Proof.Machine
end

