-- ==== Sys2Proof/Machine/Timers.lean ====
section
/-! DEFINITION. The six timer expiries (R96). A RUNNING timer whose remainder has reached 0 expires and becomes
STOPPED; with no expiry due nothing happens. -/

namespace Sys2Proof.Machine

/-- An expiry, if it is due. -/
def State.expire (s : State) (l : LaneId) (t : TimerId) : State :=
  if (s.lane l).expired t then s.timerExpired l t else s

/-- RAISE_LIMIT expiry (R99). -/
def execRaiseLimitExpiry (l : LaneId) (s : State) : Host.Outcome State Fault Refusal := .next (s.expire l .raise)

/-- PEDESTAL_LIMIT expiry (R140). -/
def execPedestalLimitExpiry (l : LaneId) (s : State) : Host.Outcome State Fault Refusal :=
  .next (s.expire l .pedestal)

/-- HOLD_LIMIT expiry (R149). -/
def execHoldLimitExpiry (l : LaneId) (s : State) : Host.Outcome State Fault Refusal := .next (s.expire l .hold)

/-- CLEAR_LIMIT expiry (R148). -/
def execClearLimitExpiry (l : LaneId) (s : State) : Host.Outcome State Fault Refusal := .next (s.expire l .clear)

/-- SEAL_WINDOW expiry (R156, R158). -/
def execSealWindowExpiry (l : LaneId) (s : State) : Host.Outcome State Fault Refusal :=
  .next (s.expire l .sealWindow)

/-- DAMAGE_WINDOW expiry (R166). -/
def execDamageWindowExpiry (l : LaneId) (s : State) : Host.Outcome State Fault Refusal :=
  .next (s.expire l .damageWindow)

end Sys2Proof.Machine
end

