-- ==== Sys2Proof/Machine/Dispatch.lean ====
section
/-! DEFINITION. The dispatch of every command to its meaning. -/

namespace Sys2Proof.Machine

/-- The effect of a command on everything but the queue of commands. -/
def exec (i : Instr) (s : State) : Host.Outcome State Fault Refusal :=
  match i with
  | .powerOnReset laneCount1 laneCount0 => Sys2Proof.Machine.execPowerOnReset laneCount1 laneCount0 s
  | .resetLine laneCount1 laneCount0 => Sys2Proof.Machine.execResetLine laneCount1 laneCount0 s
  | .commandFrame typeByte frame => Sys2Proof.Machine.execCommandFrame typeByte frame s
  | .fetch clocked => Sys2Proof.Machine.execFetch clocked s
  | .timeSet tag m => Sys2Proof.Machine.execTimeSet tag m s
  | .timeSync tag m => Sys2Proof.Machine.execTimeSync tag m s
  | .catchUpStep => Sys2Proof.Machine.execCatchUpStep s
  | .timeStatus tag => Sys2Proof.Machine.execTimeStatus tag s
  | .laneSecond => Sys2Proof.Machine.execLaneSecond s
  | .internalMinuteTick => Sys2Proof.Machine.execInternalMinuteTick s
  | .retirement => Sys2Proof.Machine.execRetirement s
  | .windowAppend tag start length cg cr => Sys2Proof.Machine.execWindowAppend tag start length cg cr s
  | .windowResize tag start cg cr => Sys2Proof.Machine.execWindowResize tag start cg cr s
  | .windowRead tag sel => Sys2Proof.Machine.execWindowRead tag sel s
  | .bookAdd tag b => Sys2Proof.Machine.execBookAdd tag b s
  | .bookAmend tag ref a => Sys2Proof.Machine.execBookAmend tag ref a s
  | .bookCancel tag ref => Sys2Proof.Machine.execBookCancel tag ref s
  | .bookReinstate tag ref => Sys2Proof.Machine.execBookReinstate tag ref s
  | .bookFind tag key => Sys2Proof.Machine.execBookFind tag key s
  | .bookPurge tag form => Sys2Proof.Machine.execBookPurge tag form s
  | .carrierSet tag code action => Sys2Proof.Machine.execCarrierSet tag code action s
  | .bookSearch => Sys2Proof.Machine.execBookSearch s
  | .claim => Sys2Proof.Machine.execClaim s
  | .admission => Sys2Proof.Machine.execAdmission s
  | .endingBookings => Sys2Proof.Machine.execEndingBookings s
  | .holdPlace tag visit reason desk => Sys2Proof.Machine.execHoldPlace tag visit reason desk s
  | .holdRelease tag visit reason desk => Sys2Proof.Machine.execHoldRelease tag visit reason desk s
  | .visitClose tag visit => Sys2Proof.Machine.execVisitClose tag visit s
  | .takeChanged tag => Sys2Proof.Machine.execTakeChanged tag s
  | .visitRead tag sel => Sys2Proof.Machine.execVisitRead tag sel s
  | .laneConfig tag lane c => Sys2Proof.Machine.execLaneConfig tag lane c s
  | .laneOpen tag lane => Sys2Proof.Machine.execLaneOpen tag lane s
  | .laneClose tag lane => Sys2Proof.Machine.execLaneClose tag lane s
  | .laneCloseForce tag lane => Sys2Proof.Machine.execLaneCloseForce tag lane s
  | .laneRecover tag lane => Sys2Proof.Machine.execLaneRecover tag lane s
  | .laneStatus tag lane clear => Sys2Proof.Machine.execLaneStatus tag lane clear s
  | .plateReport tag lane plate => Sys2Proof.Machine.execPlateReport tag lane plate s
  | .sealReport tag visit sealNo slot => Sys2Proof.Machine.execSealReport tag visit sealNo slot s
  | .sealReportVoid tag visit sealNo slot => Sys2Proof.Machine.execSealReportVoid tag visit sealNo slot s
  | .damageReport tag visit slot findings => Sys2Proof.Machine.execDamageReport tag visit slot findings s
  | .damageDone tag visit => Sys2Proof.Machine.execDamageDone tag visit s
  | .stopAllSet tag => Sys2Proof.Machine.execStopAllSet tag s
  | .stopAllClear tag => Sys2Proof.Machine.execStopAllClear tag s
  | .blockSet tag block b => Sys2Proof.Machine.execBlockSet tag block b s
  | .blockConfirm tag visit position => Sys2Proof.Machine.execBlockConfirm tag visit position s
  | .blockRead tag sel => Sys2Proof.Machine.execBlockRead tag sel s
  | .assignment lane => Sys2Proof.Machine.execAssignment lane s
  | .deskTake tag desk => Sys2Proof.Machine.execDeskTake tag desk s
  | .deskRetry tag desk => Sys2Proof.Machine.execDeskRetry tag desk s
  | .deskRebook tag desk ref start => Sys2Proof.Machine.execDeskRebook tag desk ref start s
  | .deskSend tag desk => Sys2Proof.Machine.execDeskSend tag desk s
  | .deskTurnBack tag desk => Sys2Proof.Machine.execDeskTurnBack tag desk s
  | .deskReturn tag desk => Sys2Proof.Machine.execDeskReturn tag desk s
  | .settingsWrite tag w => Sys2Proof.Machine.execSettingsWrite tag w s
  | .settingsRead tag => Sys2Proof.Machine.execSettingsRead tag s
  | .gateStatus tag clear => Sys2Proof.Machine.execGateStatus tag clear s
  | .clearFault tag => Sys2Proof.Machine.execClearFault tag s
  | .gateReset tag => Sys2Proof.Machine.execGateReset tag s
  | .approachOccupy lane => Sys2Proof.Machine.execApproachOccupy lane s
  | .approachVacate lane => Sys2Proof.Machine.execApproachVacate lane s
  | .stopOccupy lane => Sys2Proof.Machine.execStopOccupy lane s
  | .stopVacate lane => Sys2Proof.Machine.execStopVacate lane s
  | .boomOccupy lane => Sys2Proof.Machine.execBoomOccupy lane s
  | .boomVacate lane => Sys2Proof.Machine.execBoomVacate lane s
  | .exitOccupy lane => Sys2Proof.Machine.execExitOccupy lane s
  | .exitVacate lane => Sys2Proof.Machine.execExitVacate lane s
  | .pulse lane => Sys2Proof.Machine.execPulse lane s
  | .up lane => Sys2Proof.Machine.execUp lane s
  | .down lane => Sys2Proof.Machine.execDown lane s
  | .levelChange lane input active => Sys2Proof.Machine.execLevelChange lane input active s
  | .stopOn => Sys2Proof.Machine.execStopOn s
  | .stopOff => Sys2Proof.Machine.execStopOff s
  | .raiseLimitExpiry lane => Sys2Proof.Machine.execRaiseLimitExpiry lane s
  | .pedestalLimitExpiry lane => Sys2Proof.Machine.execPedestalLimitExpiry lane s
  | .holdLimitExpiry lane => Sys2Proof.Machine.execHoldLimitExpiry lane s
  | .clearLimitExpiry lane => Sys2Proof.Machine.execClearLimitExpiry lane s
  | .sealWindowExpiry lane => Sys2Proof.Machine.execSealWindowExpiry lane s
  | .damageWindowExpiry lane => Sys2Proof.Machine.execDamageWindowExpiry lane s
  | .card lane card => Sys2Proof.Machine.execCard lane card s
  | .keyedRef lane ref => Sys2Proof.Machine.execKeyedRef lane ref s
  | .keyedContainer lane container slot => Sys2Proof.Machine.execKeyedContainer lane container slot s
  | .sealRead lane sealNo slot => Sys2Proof.Machine.execSealRead lane sealNo slot s
  | .press lane key => Sys2Proof.Machine.execPress lane key s
  | .kioskHello lane => Sys2Proof.Machine.execKioskHello lane s
  | .messageFault lane fault => Sys2Proof.Machine.execMessageFault lane fault s
  | .gapLimit lane => Sys2Proof.Machine.execGapLimit lane s
  | .lineBreak lane => Sys2Proof.Machine.execLineBreak lane s
  | .breakEnd lane => Sys2Proof.Machine.execBreakEnd lane s
  | .ctsAssert lane => Sys2Proof.Machine.execCtsAssert lane s
  | .messageSent lane => Sys2Proof.Machine.execMessageSent lane s
  | .characterReceived lane data parityBit stopBit => Sys2Proof.Machine.execCharacterReceived lane data parityBit stopBit s
  | .ctsDeassert lane => Sys2Proof.Machine.execCtsDeassert lane s

end Sys2Proof.Machine
end

