-- ==== Sys2Proof/Machine/Encode.lean ====
section
/-! DEFINITION. The command frame of a control-port command (R207): its code, its payload, the frame with tag,
length and check byte. The layout is the one Machine/Frame.lean reads. -/

namespace Sys2Proof.Machine

/-- An optional operand behind its presence byte. -/
def putOpt {α : Type} (p : α → List Byte) : Option α → List Byte
  | some a => 1 :: p a
  | none => [0]

/-- A list behind its count byte. -/
def putList {α : Type} (p : α → List Byte) (l : List α) : List Byte := BitVec.ofNat 8 l.length :: l.flatMap p

/-- A one-byte number or the place of an enumerated value. -/
def putByte (n : Nat) : List Byte := beBytes 1 n

/-- A mark: 0 absent, 1 present. -/
def putMark (b : Bool) : List Byte := [if b then 1 else 0]

/-- A gate minute. -/
def putMinute (n : Nat) : List Byte := beBytes 3 n

/-- A two-byte number. -/
def putWord (n : Nat) : List Byte := beBytes 2 n

/-- A move with its fields. -/
def BookMove.bytes (m : BookMove) : List Byte :=
  putByte (moveKindByte m.kind) ++ (putOpt countedText m.container ++ (putOpt countedText m.release
    ++ (putOpt putByte m.size ++ putList countedText m.seals)))

/-- A new booking, in R29's order. -/
def NewBooking.bytes (b : NewBooking) : List Byte :=
  countedText b.ref ++ (countedText b.carrier ++ (putOpt countedText b.plate ++ (putOpt countedText b.card
    ++ (putMinute b.tag ++ (putByte (poolByte b.pool) ++ (putByte (specialByte b.special)
    ++ (putList BookMove.bytes b.moves ++ putOpt putByte b.preferred)))))))

/-- An amendable text: 0 absent, 1 given, 2 the clear mark. -/
def Amend.bytes : Amend → List Byte
  | .keep => [0]
  | .put t => 1 :: countedText t
  | .clear => [2]

/-- An amendable preferred block. -/
def AmendBlock.bytes : AmendBlock → List Byte
  | .keep => [0]
  | .put n => 1 :: putByte n
  | .clear => [2]

/-- An amendment, in R31's order. -/
def Amendment.bytes (a : Amendment) : List Byte :=
  Amend.bytes a.plate ++ (Amend.bytes a.card ++ (putOpt putMinute a.tag
    ++ (putOpt (fun p => putByte (poolByte p)) a.pool ++ (putOpt (fun x => putByte (specialByte x)) a.special
    ++ (putOpt (putList BookMove.bytes) a.moves ++ AmendBlock.bytes a.preferred)))))

/-- The key of BOOK_FIND. -/
def FindKey.bytes : FindKey → List Byte
  | .ref t => 0 :: countedText t
  | .plate t => 1 :: countedText t
  | .card t => 2 :: countedText t

/-- The form of BOOK_PURGE. -/
def PurgeForm.bytes : PurgeForm → List Byte
  | .ref t => 0 :: countedText t
  | .minute n => 1 :: putMinute n

/-- The selector of WINDOW_READ. -/
def WindowSel.bytes : WindowSel → List Byte
  | .start n => 0 :: putMinute n
  | .position n => 1 :: putByte n
  | .running => [2]
  | .lastRetired => [3]

/-- The selector of VISIT_READ. -/
def VisitSel.bytes : VisitSel → List Byte
  | .number n => 0 :: putWord n
  | .lane n => 1 :: putByte n
  | .desk n => 2 :: putByte n
  | .staging n => 3 :: putByte n

/-- The selector of BLOCK_READ. -/
def BlockSel.bytes : BlockSel → List Byte
  | .block n => 0 :: putByte n
  | .all => [1]
  | .waitList => [2]

/-- The place of a carrier action: ACTIVE, SUSPENDED, REMOVE. -/
def carrierActionByte : CarrierAction → Nat
  | .active => 0 | .suspended => 1 | .remove => 2

/-- The settings of LANE_CONFIG, in the order of R108's table, SAMPLE by its value (notes/assumptions/21.md). -/
def LaneConfigOp.bytes (c : LaneConfigOp) : List Byte :=
  c.polarity.toList.flatMap (putOpt fun p => putByte (polarityByte p))
    ++ (c.mode.toList.flatMap (putOpt fun m => putByte (modeByte m))
    ++ (putOpt putByte c.sample ++ (putOpt putByte c.depth ++ (putOpt putByte c.raiseLimit
    ++ (putOpt putByte c.axleTwinMin ++ (putOpt putByte c.parkAfter ++ (putOpt putWord c.pedestalLimit
    ++ (putOpt putWord c.holdLimit ++ (putOpt putByte c.clearLimit
    ++ putOpt (fun r => putByte (rateByte r)) c.linkRate)))))))))

/-- The flags of a gate mask from bit 0, in R202's order. -/
def GateMask.toByte (m : GateMask) : Nat :=
  (if m.clockChanged then 1 else 0) + (if m.syncReject then 2 else 0) + (if m.stopAll then 4 else 0)
    + (if m.laneFault then 8 else 0) + (if m.linkOffline then 16 else 0) + (if m.troubleFull then 32 else 0)
    + (if m.portFault then 64 else 0)

/-- The place of a zone in R165's table. -/
def zoneByte : Zone → Nat
  | .front => 0 | .doorEnd => 1 | .left => 2 | .right => 3 | .roof => 4 | .underside => 5 | .cornerPosts => 6

/-- A finding. -/
def Finding.bytes (f : Finding) : List Byte := putByte (zoneByte f.zone) ++ putByte f.severity

/-- The fields of BLOCK_SET, in R183's order. -/
def BlockSetOp.bytes (b : BlockSetOp) : List Byte :=
  putOpt (fun o : Bool => putByte (if o then 0 else 1)) b.opened ++ (putOpt putWord b.credit
    ++ (putOpt putWord b.route ++ (putOpt countedText b.label
    ++ putOpt (fun k => putByte (blockKindByte k)) b.kind)))

/-- The place of a STOP_INPUT in its list, BOTH, OFF; any other mode has none and takes the next place. -/
def stopInputByte : DetectMode → Nat
  | .both => 0 | .off => 1 | _ => 2

/-- The settings of SETTINGS_WRITE, in the order of R205's table. -/
def SettingsOp.bytes (w : SettingsOp) : List Byte :=
  putOpt putByte w.p ++ (putOpt putByte w.hx ++ (putOpt putByte w.e ++ (putOpt putByte w.g
    ++ (putOpt (fun m : StopMode => putByte (match m with
        | .hold => 0
        | .lowerIfClear => 1)) w.stopMode
    ++ (putOpt (fun r : Restart => putByte (match r with
        | .auto => 0
        | .byCommand => 1)) w.restart
    ++ (putOpt (fun p => putByte (polarityByte p)) w.stopPolarity
    ++ (putOpt (fun m => putByte (stopInputByte m)) w.stopInput ++ (putOpt putByte w.sealWindow
    ++ (putOpt putByte w.damageWindow ++ (w.weights.toList.flatMap (putOpt putByte)
    ++ (putOpt putByte w.tInspect ++ putOpt putByte w.tHold)))))))))))

/-! ### Code, tag and payload of a command -/

/-- The code of a control-port command: its place in the table of 11.5, from 1; none for a command that is no
frame of the port. -/
def codeOf : Instr → Option Nat
  | .timeSet .. => some 1 | .timeSync .. => some 2 | .timeStatus .. => some 3 | .windowAppend .. => some 4
  | .windowResize .. => some 5 | .windowRead .. => some 6 | .bookAdd .. => some 7 | .bookAmend .. => some 8
  | .bookCancel .. => some 9 | .bookReinstate .. => some 10 | .bookFind .. => some 11 | .bookPurge .. => some 12
  | .carrierSet .. => some 13 | .laneConfig .. => some 14 | .laneOpen .. => some 15 | .laneClose .. => some 16
  | .laneCloseForce .. => some 16 | .laneRecover .. => some 17 | .laneStatus .. => some 18
  | .plateReport .. => some 19 | .sealReport .. => some 20 | .sealReportVoid .. => some 20
  | .damageReport .. => some 21 | .damageDone .. => some 22 | .stopAllSet .. => some 23
  | .stopAllClear .. => some 24 | .visitRead .. => some 25 | .takeChanged .. => some 26 | .holdPlace .. => some 27
  | .holdRelease .. => some 28 | .blockConfirm .. => some 29 | .visitClose .. => some 30 | .blockSet .. => some 31
  | .blockRead .. => some 32 | .deskTake .. => some 33 | .deskRetry .. => some 34 | .deskRebook .. => some 35
  | .deskSend .. => some 36 | .deskTurnBack .. => some 37 | .deskReturn .. => some 38
  | .settingsWrite .. => some 39 | .settingsRead .. => some 40 | .gateStatus .. => some 41
  | .clearFault .. => some 42 | .gateReset .. => some 43
  | .powerOnReset .. | .resetLine .. | .commandFrame .. | .fetch .. | .catchUpStep | .laneSecond
  | .internalMinuteTick | .retirement | .bookSearch | .claim | .admission | .endingBookings | .assignment ..
  | .approachOccupy .. | .approachVacate .. | .stopOccupy .. | .stopVacate .. | .boomOccupy .. | .boomVacate ..
  | .exitOccupy .. | .exitVacate .. | .pulse .. | .up .. | .down .. | .levelChange .. | .stopOn | .stopOff
  | .raiseLimitExpiry .. | .pedestalLimitExpiry .. | .holdLimitExpiry .. | .clearLimitExpiry ..
  | .sealWindowExpiry .. | .damageWindowExpiry .. | .card .. | .keyedRef .. | .keyedContainer .. | .sealRead ..
  | .press .. | .kioskHello .. | .messageFault .. | .gapLimit .. | .lineBreak .. | .breakEnd .. | .ctsAssert ..
  | .messageSent .. | .characterReceived .. | .ctsDeassert .. => none

/-- The tag a command's frame carries; 0 for a command that is no frame of the port. -/
def tagOf : Instr → Byte
  | .timeSet t _ | .timeSync t _ | .timeStatus t | .windowAppend t _ _ _ _ | .windowResize t _ _ _
  | .windowRead t _ | .bookAdd t _ | .bookAmend t _ _ | .bookCancel t _ | .bookReinstate t _ | .bookFind t _
  | .bookPurge t _ | .carrierSet t _ _ | .holdPlace t _ _ _ | .holdRelease t _ _ _ | .visitClose t _
  | .takeChanged t | .visitRead t _ | .laneConfig t _ _ | .laneOpen t _ | .laneClose t _ | .laneCloseForce t _
  | .laneRecover t _ | .laneStatus t _ _ | .plateReport t _ _ | .sealReport t _ _ _ | .sealReportVoid t _ _ _
  | .damageReport t _ _ _ | .damageDone t _ | .stopAllSet t | .stopAllClear t | .blockSet t _ _
  | .blockConfirm t _ _ | .blockRead t _ | .deskTake t _ | .deskRetry t _ | .deskRebook t _ _ _ | .deskSend t _
  | .deskTurnBack t _ | .deskReturn t _ | .settingsWrite t _ | .settingsRead t | .gateStatus t _ | .clearFault t
  | .gateReset t => t
  | _ => 0

/-- The payload of a command's frame. -/
def payloadOf : Instr → List Byte
  | .timeSet _ m => putMinute m
  | .timeSync _ m => putMinute m
  | .windowAppend _ st len cg cr => putMinute st ++ (putByte len ++ (putWord cg ++ putByte cr))
  | .windowResize _ st cg cr => putMinute st ++ (putOpt putWord cg ++ putOpt putByte cr)
  | .windowRead _ sel => WindowSel.bytes sel
  | .bookAdd _ b => NewBooking.bytes b
  | .bookAmend _ r a => countedText r ++ Amendment.bytes a
  | .bookCancel _ r => countedText r
  | .bookReinstate _ r => countedText r
  | .bookFind _ k => FindKey.bytes k
  | .bookPurge _ f => PurgeForm.bytes f
  | .carrierSet _ code a => countedText code ++ putByte (carrierActionByte a)
  | .laneConfig _ l c => putByte l ++ LaneConfigOp.bytes c
  | .laneOpen _ l => putByte l
  | .laneClose _ l => putByte l ++ putMark false
  | .laneCloseForce _ l => putByte l ++ putMark true
  | .laneRecover _ l => putByte l
  | .laneStatus _ l m => putByte l ++ putOpt putByte (some (LinkMask.toByte m))
  | .plateReport _ l p => putByte l ++ countedText p
  | .sealReport _ v n k => putWord v ++ (countedText n ++ (putOpt putByte k ++ putMark false))
  | .sealReportVoid _ v n k => putWord v ++ (countedText n ++ (putOpt putByte k ++ putMark true))
  | .damageReport _ v k fs => putWord v ++ (putOpt putByte k ++ putList Finding.bytes fs)
  | .damageDone _ v => putWord v
  | .visitRead _ sel => VisitSel.bytes sel
  | .holdPlace _ v r d => putWord v ++ (putByte (reasonByte r) ++ putOpt putByte d)
  | .holdRelease _ v r d => putWord v ++ (putByte (reasonByte r) ++ putOpt putByte d)
  | .blockConfirm _ v p => putWord v ++ putByte p
  | .visitClose _ v => putWord v
  | .blockSet _ b op => putByte b ++ BlockSetOp.bytes op
  | .blockRead _ sel => BlockSel.bytes sel
  | .deskTake _ d => putByte d
  | .deskRetry _ d => putByte d
  | .deskRebook _ d r st => putByte d ++ (countedText r ++ putMinute st)
  | .deskSend _ d => putByte d
  | .deskTurnBack _ d => putByte d
  | .deskReturn _ d => putByte d
  | .settingsWrite _ w => SettingsOp.bytes w
  | .gateStatus _ m => putOpt putByte (some (GateMask.toByte m))
  | _ => []

/-- A command frame: code, tag, payload length, payload, and the check byte that brings the sum to 0. -/
def frameOf (code : Nat) (tag : Byte) (payload : List Byte) : List Byte :=
  let body := BitVec.ofNat 8 code :: tag :: (beBytes 2 payload.length ++ payload)
  body ++ [-(byteSum body)]

/-- The command frame of a command; empty for a command that is no frame of the port. -/
def encode (c : Instr) : List Byte :=
  match codeOf c with
  | some k => frameOf k (tagOf c) (payloadOf c)
  | none => []

end Sys2Proof.Machine
end

