-- ==== Sys2Proof/WellFormed.lean ====
section
/-! DEFINITION. Well-formed commands: every operand fits the bytes the frame layout of R207 or the message layout of
R120 gives it, so that a frame or a message can carry it. A well-formed command may still be refused by its own
checks. -/

namespace Sys2Proof

/-- A number fits so many bytes. -/
def fits (bytes n : Nat) : Bool := decide (n < 256 ^ bytes)

/-- An optional number fits so many bytes. -/
def fitsOpt (bytes : Nat) (n : Option Nat) : Bool := n.all (fits bytes)

/-- A character field fits behind its count byte. -/
def fitsText (t : Text) : Bool := decide (t.length < 256)

/-- A list fits behind its count byte. -/
def fitsList {α : Type} (p : α → Bool) (l : List α) : Bool := decide (l.length < 256) && l.all p

/-- A move fits. -/
def fitsMove (m : BookMove) : Bool :=
  m.container.all fitsText && m.release.all fitsText && fitsOpt 1 m.size && fitsList fitsText m.seals

/-- A new booking fits. -/
def fitsBooking (b : NewBooking) : Bool :=
  fitsText b.ref && fitsText b.carrier && b.plate.all fitsText && b.card.all fitsText && fits 3 b.tag
    && fitsList fitsMove b.moves && fitsOpt 1 b.preferred

/-- An amendable text fits. -/
def fitsAmend : Amend → Bool
  | .put t => fitsText t
  | .keep => true
  | .clear => true

/-- An amendable block fits. -/
def fitsAmendBlock : AmendBlock → Bool
  | .put n => fits 1 n
  | .keep => true
  | .clear => true

/-- An amendment fits. -/
def fitsAmendment (a : Amendment) : Bool :=
  fitsAmend a.plate && fitsAmend a.card && fitsOpt 3 a.tag && a.moves.all (fitsList fitsMove)
    && fitsAmendBlock a.preferred

/-- The settings of LANE_CONFIG fit; LINK_RATE is one of its list. -/
def fitsLaneConfig (c : LaneConfigOp) : Bool :=
  fitsOpt 1 c.sample && fitsOpt 1 c.depth && fitsOpt 1 c.raiseLimit && fitsOpt 1 c.axleTwinMin
    && fitsOpt 1 c.parkAfter && fitsOpt 2 c.pedestalLimit && fitsOpt 2 c.holdLimit && fitsOpt 1 c.clearLimit
    && c.linkRate.all fun r => decide (r ∈ [9600, 19200, 38400])

/-- The settings of SETTINGS_WRITE fit; STOP_INPUT is one of its list. -/
def fitsSettings (w : SettingsOp) : Bool :=
  fitsOpt 1 w.p && fitsOpt 1 w.hx && fitsOpt 1 w.e && fitsOpt 1 w.g && fitsOpt 1 w.sealWindow
    && fitsOpt 1 w.damageWindow && w.weights.toList.all (fitsOpt 1) && fitsOpt 1 w.tInspect && fitsOpt 1 w.tHold
    && w.stopInput.all fun m => decide (m = .both ∨ m = .off)

/-- The fields of BLOCK_SET fit. -/
def fitsBlockSet (b : BlockSetOp) : Bool := fitsOpt 2 b.credit && fitsOpt 2 b.route && b.label.all fitsText

/-- A keyed text with its slot character fits a message payload (R118, R207). -/
def fitsMessage (t : Text) (slot : Option Nat) : Bool :=
  decide (t.length < Config.maxInbound) && slot.all fun k => decide (k = 1 ∨ k = 2)

/-- Every operand of a command fits its layout. -/
def operandsFit : Instr → Bool
  | .timeSet _ m => fits 3 m
  | .timeSync _ m => fits 3 m
  | .windowAppend _ st len cg cr => fits 3 st && fits 1 len && fits 2 cg && fits 1 cr
  | .windowResize _ st cg cr => fits 3 st && fitsOpt 2 cg && fitsOpt 1 cr
  | .windowRead _ sel => match sel with
    | .start n => fits 3 n
    | .position n => fits 1 n
    | .running => true
    | .lastRetired => true
  | .bookAdd _ b => fitsBooking b
  | .bookAmend _ r a => fitsText r && fitsAmendment a
  | .bookCancel _ r => fitsText r
  | .bookReinstate _ r => fitsText r
  | .bookFind _ k => match k with
    | .ref t => fitsText t
    | .plate t => fitsText t
    | .card t => fitsText t
  | .bookPurge _ f => match f with
    | .ref t => fitsText t
    | .minute n => fits 3 n
  | .carrierSet _ code _ => fitsText code
  | .laneConfig _ l c => fits 1 l && fitsLaneConfig c
  | .laneOpen _ l => fits 1 l
  | .laneClose _ l => fits 1 l
  | .laneCloseForce _ l => fits 1 l
  | .laneRecover _ l => fits 1 l
  | .laneStatus _ l _ => fits 1 l
  | .plateReport _ l p => fits 1 l && fitsText p
  | .sealReport _ v n k => fits 2 v && fitsText n && fitsOpt 1 k
  | .sealReportVoid _ v n k => fits 2 v && fitsText n && fitsOpt 1 k
  | .damageReport _ v k fs => fits 2 v && fitsOpt 1 k && fitsList (fun f : Finding => fits 1 f.severity) fs
  | .damageDone _ v => fits 2 v
  | .visitRead _ sel => match sel with
    | .number n => fits 2 n
    | .lane n => fits 1 n
    | .desk n => fits 1 n
    | .staging n => fits 1 n
  | .holdPlace _ v _ d => fits 2 v && fitsOpt 1 d
  | .holdRelease _ v _ d => fits 2 v && fitsOpt 1 d
  | .blockConfirm _ v p => fits 2 v && fits 1 p
  | .visitClose _ v => fits 2 v
  | .blockSet _ b op => fits 1 b && fitsBlockSet op
  | .blockRead _ sel => match sel with
    | .block n => fits 1 n
    | .all => true
    | .waitList => true
  | .deskTake _ d => fits 1 d
  | .deskRetry _ d => fits 1 d
  | .deskRebook _ d r st => fits 1 d && fitsText r && fits 3 st
  | .deskSend _ d => fits 1 d
  | .deskTurnBack _ d => fits 1 d
  | .deskReturn _ d => fits 1 d
  | .settingsWrite _ w => fitsSettings w
  | .card _ t => decide (t.length ≤ Config.maxInbound)
  | .keyedRef _ t => decide (t.length ≤ Config.maxInbound)
  | .keyedContainer _ t slot => fitsMessage t slot
  | .sealRead _ t slot => fitsMessage t slot
  | _ => true

/-- A command is well formed: its operands fit, and its payload is no longer than a frame may carry (R200). -/
def wellFormed (c : Instr) : Bool :=
  operandsFit c && decide ((Machine.payloadOf c).length ≤ Config.maxPayload)

end Sys2Proof
end

