-- ==== Sys2Proof/Safety.lean ====
section
/-! DEFINITION. What a safe run of the part keeps, and the words statements use: when the Control Port takes a
command, when the Book Engine serves it, the invariants of the clock, the book, the ring, the visit slots, the
yard wait list and the response queue, and the frame of an event that a lane or a link takes. -/

namespace Sys2Proof.Machine

/-! ### When a command is taken and served -/

/-- The port is free: no command in progress and a place in the response queue (R200, R201). -/
def State.portIdle (s : State) : Prop :=
  s.cp.inProgress = none ∧ s.cp.responses.length < Config.responsePlaces

/-- The port takes a changing command: it is free and PORT_FAULT is clear (R203). -/
def State.portReady (s : State) : Prop := s.portIdle ∧ s.cp.flags.portFault = false

/-- A command of the port is granted by the Book Engine as soon as it is taken: no retirement is held, and no lane
waits or the lane class was served last (R24). -/
def State.portTurn (s : State) : Prop :=
  s.retirementHeld = false ∧ (s.nextLane = none ∨ s.be.lastClass = .lane)

/-- A command that is served while PORT_FAULT is set (11.5, R203; R126 for LANE_STATUS). -/
def readingRow : Instr → Bool
  | .timeStatus _ | .windowRead _ _ | .bookFind _ _ | .visitRead _ _ | .takeChanged _ | .blockRead _ _
  | .settingsRead _ | .gateStatus _ _ | .clearFault _ => true
  | .laneStatus _ _ clear => !LinkMask.any clear
  | _ => false

/-- No command in progress goes on merely because no retirement is held any more. -/
def State.portSteady (s : State) : Prop := ∀ p, s.cp.inProgress = some p → p.phase.settles = false

/-! ### Invariants -/

/-- The gate minute is absent exactly in UNSET, is at most 1,048,575, and stands there only in LOST; no target of a
catch-up, present or to come, lies above it, and in UNSET there is none (R1, R3, R9). -/
def State.clockOk (s : State) : Prop :=
  (s.tb.minute = none ↔ s.tb.clock = .unset)
  ∧ (∀ n, s.tb.minute = some n → n ≤ Config.maxMinute ∧ (n = Config.maxMinute → s.tb.clock = .lost))
  ∧ (∀ m, s.tb.target = some m → m ≤ Config.maxMinute)
  ∧ (∀ p m k, s.cp.inProgress = some p → p.phase = .recoverForward m k →
      m ≤ Config.maxMinute ∧ s.tb.clock ≠ .unset)
  ∧ (s.tb.clock = .unset → s.tb.target = none)

/-- No ref stands twice in the book, which holds at most 4096 bookings; no code stands twice in the carrier table,
which holds at most 128 (R15, R19, R30). -/
def State.bookOk (s : State) : Prop :=
  (s.be.book.map (·.ref)).Nodup ∧ s.be.book.length ≤ Config.bookSize
  ∧ (s.be.carriers.map (·.code)).Nodup ∧ s.be.carriers.length ≤ Config.carrierSize

/-- A window's length and capacities are in their ranges, it ends by minute 1,048,575 (R43), and neither count is
above its capacity (R41). -/
def Window.sound (w : Window) : Prop :=
  15 ≤ w.length ∧ w.length ≤ 240 ∧ w.length % 5 = 0 ∧ w.finish ≤ Config.maxMinute
  ∧ w.cg ≤ Config.maxCg ∧ w.cr ≤ Config.maxCr ∧ w.bookedG ≤ w.cg ∧ w.bookedR ≤ w.cr

/-- The ring holds at most 48 windows, each sound, in order and without overlap (R39). -/
def State.ringOk (s : State) : Prop :=
  s.be.ring.length ≤ Config.ringSize ∧ (∀ w ∈ s.be.ring, w.sound)
  ∧ s.be.ring.Pairwise fun a b => a.finish ≤ b.start

/-- A hold list has at most six holds and no reason twice (R75). -/
def holdsOk (l : List Hold) : Prop := l.length ≤ Config.holdListSize ∧ (l.map (·.reason)).Nodup

/-- At most 64 visit slots are in use, under different numbers from 1 to 65535, each with a sound hold list; the
changed set names slots in use, each once; no lane waits twice for a slot (R66, R67, R75, R82). -/
def State.visitsOk (s : State) : Prop :=
  s.vt.visits.length ≤ Config.slotCount
  ∧ (s.vt.visits.map (·.number)).Nodup
  ∧ (∀ v ∈ s.vt.visits, 1 ≤ v.number ∧ v.number ≤ Config.maxVisitNumber)
  ∧ (1 ≤ s.vt.next ∧ s.vt.next ≤ Config.maxVisitNumber)
  ∧ (∀ v ∈ s.vt.visits, holdsOk v.holds)
  ∧ s.vt.changed.Nodup
  ∧ (∀ n ∈ s.vt.changed, n ∈ s.vt.visits.map (·.number))
  ∧ s.vt.slotWait.Nodup

/-- The yard wait list has at most 16 visits, none twice (R181). -/
def State.waitOk (s : State) : Prop :=
  s.yd.waitList.length ≤ Config.waitListSize ∧ (s.yd.waitList.map (·.visit)).Nodup

/-- The response queue and the place reserved for the command in progress never exceed four places (R201). -/
def State.placesOk (s : State) : Prop := s.placesTaken ≤ Config.responsePlaces

/-- Every invariant above. -/
def State.sound (s : State) : Prop :=
  s.clockOk ∧ s.bookOk ∧ s.ringOk ∧ s.visitsOk ∧ s.waitOk ∧ s.placesOk

/-- The place count is at most 16, and every queued visit has a hold (R189). -/
def State.troubleOk (s : State) : Prop :=
  s.placeCount ≤ Config.troublePlaces ∧ ∀ v ∈ s.vt.visits, v.stage = .queued → v.holds ≠ []

/-! ### Invariants that tie the blocks to one another -/

/-- The visit with a number is in the table and passes a test. -/
def State.standsAs (s : State) (n : Nat) (p : Visit → Bool) : Prop := (s.visit? n).any p = true

/-- The state a lane is in, or would be in but for a stop-all (R102). -/
def Lane.under (x : Lane) : LaneState :=
  match x.state, x.remembered with
  | .fault .stopped, some r => r.state
  | st, _ => st

/-- The states in which a lane has no event and no grant to keep: it keeps them in HELD (R149). -/
def LaneState.keepsNone : LaneState → Bool
  | .held | .directed | .fault _ => false
  | _ => true

/-- A lane above the strap is CLOSED, binds no visit, owes nothing and waits for no slot (R127, R130, R206); a lane keeps
events and a grant only from HELD on (R149). -/
def State.lanesOk (s : State) : Prop :=
  (∀ l, s.strapped l = false → (s.lane l).state = .closed ∧ (s.lane l).visit = none ∧ (s.lane l).owed = []
    ∧ l ∉ s.vt.slotWait)
  ∧ ∀ l, (s.lane l).under.keepsNone = true → (s.lane l).keptEvents = [] ∧ (s.lane l).keptGrant = false

/-- The bookings steps that are waited for, by the visit they are to end: those the lanes owe and that of the command in
progress (R72). -/
def State.waitingEnds (s : State) : List Nat :=
  (s.lanes.toList.flatMap fun x => x.owed.filterMap fun o => match o with
    | .ending n _ => some n
    | .admission _ => none)
  ++ match s.cp.inProgress.map (·.phase) with
    | some (.ending n _) => [n]
    | _ => []

/-- No visit's bookings step is waited for twice, and each is that of a live visit that is ending (R72). -/
def State.endingsOk (s : State) : Prop :=
  s.waitingEnds.Nodup
  ∧ ∀ n ∈ s.waitingEnds, s.standsAs n fun v => v.ending.isSome && decide (v.stage ≠ .closed)

/-- A visit stands in the one place its stage gives it (R64, R69): what a lane binds is AT_LANE there, the trouble queue
holds QUEUED visits that are not ending, each once, a desk serves a visit AT_DESK there, ending only for the command in
progress, the staging list holds STAGED visits, each once; and a visit has a lane exactly while it is AT_LANE and a desk
exactly while it is AT_DESK. -/
def State.standingsOk (s : State) : Prop :=
  (∀ l n, (s.lane l).visit = some n → s.standsAs n fun v => decide (v.stage = .atLane ∧ v.lane = some l))
  ∧ (s.td.queue.Nodup ∧ ∀ n ∈ s.td.queue, s.standsAs n fun v => decide (v.stage = .queued ∧ v.ending = none))
  ∧ (∀ d : DeskId, ∀ n t r, s.td.desks[d] = .serving n t r →
      (s.standsAs n fun v => decide (v.stage = .atDesk ∧ v.desk = some d))
      ∧ ((∀ k, s.cp.inProgress.map (·.phase) ≠ some (.ending n k)) → s.standsAs n fun v => v.ending.isNone))
  ∧ (s.vt.stagedIn.Nodup ∧ ∀ n ∈ s.vt.stagedIn, s.standsAs n fun v => decide (v.stage = .staged))
  ∧ ∀ v ∈ s.vt.visits, (v.lane.isSome ↔ v.stage = .atLane) ∧ (v.desk.isSome ↔ v.stage = .atDesk)

/-- The moves on their way to a block: those DIRECTED to it, over every visit. -/
def State.onTheWay (s : State) (b : BlockId) : Nat :=
  (s.vt.visits.map fun v => v.moves.countP fun m => decide (m.state = .directed ∧ m.block = some b)).sum

/-- The in_transit of each block is the number of moves DIRECTED to it, and a visit that is ending or closed has no
DIRECTED move (R72, R173). -/
def State.transitOk (s : State) : Prop :=
  (∀ b : BlockId, s.yd.blocks[b].inTransit = s.onTheWay b)
  ∧ ∀ v ∈ s.vt.visits, v.ending.isSome ∨ v.stage = .closed → ∀ m ∈ v.moves, m.state ≠ .directed

/-- What a visit claims and what names a visit as claimant agree: each claimed booking is ARRIVED or ADMITTED with this
visit its claimant, each claimant is a live visit that claims the booking, and a booking has one exactly in those states
(R17, R27, R28). No lane asks for one booking twice. -/
def State.claimsOk (s : State) : Prop :=
  (∀ v ∈ s.vt.visits, ∀ c ∈ v.claimed, (s.booking? c.ref).any (fun b => decide (b.claimant = some v.number)) = true)
  ∧ (∀ b ∈ s.be.book, ∀ n, b.claimant = some n →
      (s.live? n).any (fun v => decide (b.ref ∈ v.claimed.map (·.ref))) = true)
  ∧ (∀ b ∈ s.be.book, b.claimant.isSome ↔ (b.state = .arrived ∨ b.state = .admitted))
  ∧ (∀ l refs, (s.lane l).request = .claim refs → refs.Nodup)
  ∧ ∀ l a b, KeptAnswer.search (.two a b) ∈ (s.lane l).keptAnswers → a ≠ b

/-- Each count of a window is the number of bookings of its tag and that pool that hold a charge there, and the window of a
LAPSED booking is not in the ring (R18, R41, R48). -/
def State.chargesOk (s : State) : Prop :=
  (∀ w ∈ s.be.ring, ∀ p, w.count p = s.be.book.countP fun b =>
      b.state.charged && decide (b.tag = w.start ∧ b.pool = p))
  ∧ ∀ b ∈ s.be.book, b.state = .lapsed → s.windowOf b.tag = none

/-- Every invariant that ties the blocks to one another. -/
def State.linked (s : State) : Prop :=
  s.lanesOk ∧ s.endingsOk ∧ s.standingsOk ∧ s.transitOk ∧ s.claimsOk ∧ s.chargesOk

/-! ### Inputs -/

/-- DEPTH agreeing samples of an input change its filtered level to this one, and its mode reports the change: the lane
is strapped and the input not OFF (R86, R90, R206). -/
def State.reportsChange (s : State) (l : LaneId) (i : Input) (active : Bool) : Bool :=
  let x := s.lane l
  let mode := x.cfg.mode[inputIdx i]
  decide (l.val < s.strap ∧ 1 ≤ x.cfg.depth ∧ x.filters[inputIdx i].level ≠ active)
    && decide (mode = .both ∨ (mode = .rise ∧ active = true) ∨ (mode = .fall ∧ active = false))

/-- A lane once an input has been accepted at a level: its filter, at an OCCUPY the loop's stamps and the occupy count,
and at a clear BOOM loop a pending withdrawal (R90, R92, R93, R97). -/
def Lane.took (x : Lane) (sec : LaneSec) (i : Input) (active : Bool) : Lane :=
  { x with
    filters := x.filters.set (inputIdx i) { level := active, run := 0 }
    stamps := match stampIdx i with
      | some k => if active then
          x.stamps.set k { current := some sec, previous := x.stamps[k].current.or x.stamps[k].previous }
        else x.stamps
      | none => x.stamps
    boomCount := if i = .boom ∧ active = true then min 15 (x.boomCount + 1) else x.boomCount
    output := if i = .boom ∧ active = false ∧ x.output = .withdrawPending then .withdrawn else x.output }

/-! ### Frames -/

/-- What no event on the lanes' side touches: the time base, the settings, the strap, the Book Engine's records, the
stop-all sources, the Control Port's queue and its own flags, and the commands still to come. -/
structure LaneSide (s t : State) : Prop where
  tb : t.tb = s.tb
  cfg : t.cfg = s.cfg
  strap : t.strap = s.strap
  be : t.be = s.be
  stop : t.stop = s.stop
  pending : t.pending = s.pending
  inProgress : t.cp.inProgress = s.cp.inProgress
  responses : t.cp.responses = s.cp.responses
  faultCause : t.cp.faultCause = s.cp.faultCause
  fetchOut : t.cp.fetchOut = s.cp.fetchOut
  clockChanged : t.cp.flags.clockChanged = s.cp.flags.clockChanged
  syncReject : t.cp.flags.syncReject = s.cp.flags.syncReject
  portFault : t.cp.flags.portFault = s.cp.flags.portFault

/-- What a change of a hold list and its notices leave alone: the time base, the settings, the strap, the stop-all
sources, the commands still to come, and the gate flags and cause that belong to the clock and the Control Port. -/
structure RecordSide (s t : State) : Prop where
  tb : t.tb = s.tb
  cfg : t.cfg = s.cfg
  strap : t.strap = s.strap
  stop : t.stop = s.stop
  pending : t.pending = s.pending
  faultCause : t.cp.faultCause = s.cp.faultCause
  clockChanged : t.cp.flags.clockChanged = s.cp.flags.clockChanged
  syncReject : t.cp.flags.syncReject = s.cp.flags.syncReject
  stopAll : t.cp.flags.stopAll = s.cp.flags.stopAll
  portFault : t.cp.flags.portFault = s.cp.flags.portFault

/-- Every record but the time base and the Control Port is as it was. -/
structure SameRecords (s t : State) : Prop where
  cfg : t.cfg = s.cfg
  strap : t.strap = s.strap
  be : t.be = s.be
  vt : t.vt = s.vt
  lanes : t.lanes = s.lanes
  yd : t.yd = s.yd
  td : t.td = s.td
  stop : t.stop = s.stop
  pending : t.pending = s.pending

/-- The Control Port has answered: it is free, and one response with this tag, status and payload has joined its
queue; its fault cause and the bytes last fetched stand. -/
structure Answered (s t : State) (tag : Byte) (st : Status) (payload : List Field) : Prop where
  inProgress : t.cp.inProgress = none
  responses : t.cp.responses = s.cp.responses ++ [{ tag, status := st, payload }]
  faultCause : t.cp.faultCause = s.cp.faultCause
  fetchOut : t.cp.fetchOut = s.cp.fetchOut

/-- The command holds the Control Port in a later phase and has not been answered. -/
structure InPhase (s t : State) (tag : Byte) (ph : Phase) : Prop where
  inProgress : ∃ p, t.cp.inProgress = some p ∧ p.tag = tag ∧ p.phase = ph
  responses : t.cp.responses = s.cp.responses
  faultCause : t.cp.faultCause = s.cp.faultCause
  fetchOut : t.cp.fetchOut = s.cp.fetchOut

/-- What the events of a moving gate minute leave alone: the settings, the strap, the Book Engine's records but for the
mark that a lane may go before a retirement, the stop-all sources, the Control Port's queue, and the commands still to
come. -/
structure MinuteSide (s t : State) : Prop where
  cfg : t.cfg = s.cfg
  strap : t.strap = s.strap
  be : t.be = { s.be with claimAhead := t.be.claimAhead }
  stop : t.stop = s.stop
  pending : t.pending = s.pending

/-- A lane acts as the gate minute becomes `n`: in IDLE its parking wait is over, in APPROACH its wait for the STOP loop
with both loops clear (R105, R133). -/
def Lane.actsAt (x : Lane) (n : Nat) : Bool :=
  let past := fun r : Option Nat => r.any fun m => decide (m + x.cfg.parkAfter ≤ n)
  (decide (x.state = .idle) && past x.parkRef)
    || (decide (x.state = .approach) && past x.approachRef && !x.reads .approach && !x.reads .stop)

/-- What lanes and staged visits do as the gate minute becomes a new one, `n`: an IDLE lane parks, a lane in APPROACH goes
IDLE, or CLOSED if CLOSING, every other lane stands, and a staged visit whose eligible minute has come is ELIGIBLE (R81,
R105, R133). -/
structure MinuteActs (s t : State) (n : Nat) : Prop where
  stand : ∀ l, (s.lane l).actsAt n = false → t.lane l = s.lane l
  park : ∀ l, (s.lane l).actsAt n = true → (s.lane l).state = .idle → t.lane l = { s.lane l with
    state := .parked, parkRef := none, wakeArmed := some (!(s.lane l).reads .approach), link := (t.lane l).link }
  close : ∀ l, (s.lane l).actsAt n = true → (s.lane l).state = .approach → (s.lane l).closing = true →
    t.lane l = { (s.lane l).shut with link := (t.lane l).link }
  idle : ∀ l, (s.lane l).actsAt n = true → (s.lane l).state = .approach → (s.lane l).closing = false →
    (s.lane l).memApproach = false → (s.lane l).memStop = false → t.lane l = { (s.lane l).cleared with
      state := .idle, parkRef := some n, axleCount := 0, axleOpen := false, link := (t.lane l).link }
  stagedIn : t.vt.stagedIn = s.vt.stagedIn
  visits : ∀ m v, s.visit? m = some v →
    let due := decide (s.tb.clock ≠ .unset ∧ m ∈ s.vt.stagedIn ∧ v.ending = none ∧ v.stage ≠ .closed)
      && v.staging.any fun g => !g.eligible && decide (g.minute ≤ n)
    t.visit? m = some (if due then
      { v with
        staging := v.staging.map fun g => { g with eligible := true }, causes := insertCause .stage v.causes } else v)
    ∧ (due = true → m ∈ t.vt.changed)

/-- The gate flags after a change of clock state, if it is one (R4). -/
def clockFlags (before after : ClockState) (m : GateMask) : GateMask :=
  { m with clockChanged := m.clockChanged || decide (after ≠ before) }

end Sys2Proof.Machine
end

