-- ==== Sys2Proof/Certificates/Slice0/Obligations.lean ====
section
/-! DEFINITION. The statements for the provers, each a `def Obligations.<Name> : Prop`. -/

open Sys2Proof Sys2Proof.Machine

/-! ### The step -/

/-- A step takes the command at the front of the queue and runs it on the state with the queue's rest; on an empty
queue the part idles, which is the model's choice (notes/assumptions/2.md). -/
def Obligations.StepRunsFrontCommand : Prop :=
  (∀ (c : Instr) (rest : List Instr) (s : State),
    step { s with pending := c :: rest } = exec c { s with pending := rest })
  ∧ ∀ s : State, s.pending = [] → step s = .next s

/-! ### What every step keeps -/

/-- The part after reset meets every invariant. -/
def Obligations.ResetIsSound : Prop := State.reset.sound ∧ State.reset.linked ∧ State.reset.troubleOk

/-- 1.1, 1.2: the gate minute is absent exactly in UNSET, never above 1,048,575, and there only in LOST; no target of
a catch-up, present or to come, lies above it, and in UNSET there is none. Every step keeps this. -/
def Obligations.StepKeepsClock : Prop :=
  ∀ s t : State, s.clockOk → step s = .next t → t.clockOk

/-- 2.1, 2.3: every step keeps refs and carrier codes distinct and the two tables within their sizes. -/
def Obligations.StepKeepsBook : Prop :=
  ∀ s t : State, s.bookOk → step s = .next t → t.bookOk

/-- 3.1, 3.3: every step keeps the ring ordered, without overlap, within its size and ranges, and no count above its
capacity. -/
def Obligations.StepKeepsRing : Prop :=
  ∀ s t : State, s.ringOk → step s = .next t → t.ringOk

/-- 4.2, 4.5, 4.7: every step keeps visit numbers distinct and in range, slots within 64, hold lists within six with
no reason twice, and the changed set a set of slots in use. -/
def Obligations.StepKeepsVisits : Prop :=
  ∀ s t : State, s.visitsOk → step s = .next t → t.visitsOk

/-- 9.4, 11.1, 10.1: every step keeps the yard wait list within 16 visits, none twice, the responses held with the
place reserved for the command in progress within four places, and, given every invariant before the step, the place
count of the trouble area within 16 and a hold on every queued visit. -/
def Obligations.StepKeepsQueues : Prop :=
  ∀ s t : State, step s = .next t → (s.waitOk → t.waitOk) ∧ (s.placesOk → t.placesOk)
    ∧ (s.sound → s.linked → s.troubleOk → t.troubleOk)

/-- 2.2, 2.6, 3.3: every step keeps what claims a booking and what it is claimed by in agreement, each claimed booking
having one live claimant, and each count of a window the number of bookings charged to it in that pool; given every
invariant before the step. -/
def Obligations.StepKeepsCharges : Prop :=
  ∀ s t : State, s.sound → s.linked → step s = .next t → t.claimsOk ∧ t.chargesOk

/-- 4.1, 4.3, 4.4, 9.2: every step keeps each visit in the one place its stage gives it, each bookings step that is
waited for that of one live ending visit, the lanes above the strap closed and bare, and the in_transit of each block
the number of moves DIRECTED to it; given every invariant before the step. -/
def Obligations.StepKeepsPlaces : Prop :=
  ∀ s t : State, s.sound → s.linked → step s = .next t → t.lanesOk ∧ t.endingsOk ∧ t.standingsOk ∧ t.transitOk

/-- 5.5: the boom-raise output of a lane, once asserted, is withdrawn by no step but at a moment when that lane's BOOM
loop reads clear, the two resets apart; and a withdrawal waits only while the loop reads occupied: a step from a state
in which that holds of a lane leaves a state in which it holds of that lane. -/
def Obligations.BoomLowersOnlyWhenClear : Prop :=
  ∀ s t : State, step s = .next t → ∀ l : LaneId,
    ((match s.pending.head? with
        | some (.powerOnReset _ _) | some (.resetLine _ _) => false
        | _ => true) = true →
      (s.lane l).output ≠ .withdrawn → (t.lane l).output = .withdrawn → (t.lane l).reads .boom = false)
    ∧ (((s.lane l).output = .withdrawPending → (s.lane l).reads .boom = true) →
      (t.lane l).output = .withdrawPending → (t.lane l).reads .boom = true)

/-! ### The Control Port -/

/-- 11.1, 11.5, 11.7: the frame of a well-formed command of the port, in a COMMAND transaction, has the effect of that
command, whatever the state of the port, while SDO carries a byte of value 0 for each of its bytes, which the model
keeps as those last clocked out (notes/assumptions/28.md); a waiting command given again is no frame
(notes/assumptions/3.md), so it is set apart. The layout where R207 leaves it open is the model's
(notes/assumptions/21.md). -/
def Obligations.CommandFrameCarriesCommand : Prop :=
  ∀ (c : Instr) (s : State), (codeOf c).isSome → wellFormed c = true → s.awaits c = false →
    exec (.commandFrame 1 (encode c)) s = exec c (s.clockOut (List.replicate (encode c).length 0))

/-- 11.1, 11.2: a command of the port that is not taken: lost with PORT_FAULT where the response queue has no place;
answered BUSY while a command is in progress; and a changing command answered PORT_FAULT while that flag is set.
Nothing else changes. 11.1: a transaction that is no COMMAND or FETCH, a malformed frame, a frame of an unknown code
and one whose operands do not decode are answered BAD_FRAME, BAD_FRAME, UNKNOWN_COMMAND and BAD_VALUE with the frame's
tag; the first three set PORT_FAULT with its cause. With no place for the answer each is lost, which sets PORT_FAULT
with cause RESPONSE_LOST. Nothing else changes but the bytes SDO has carried: 0 for each byte of a COMMAND
transaction, and free values in one of an unknown type, which the model keeps (notes/assumptions/28.md). 11.1: FETCH
clocks out the count of responses and the oldest one, whole or in part; that response leaves the queue if its last
byte was clocked out, and nothing else changes. That no byte is kept of what SDO carries past it is the model's choice
(notes/assumptions/75.md). A FETCH transaction is the same with the bytes it clocks. -/
def Obligations.PortAnswersAndFetches : Prop :=
  ((∀ (c : Instr) (s : State), (codeOf c).isSome → s.awaits c = false →
    (4 ≤ s.placesTaken → exec c s = .next (s.flagPortFault .responseLost))
    ∧ (s.placesTaken < 4 → s.cp.inProgress.isSome → exec c s = .next (s.respond (tagOf c) .busy []))
    ∧ (s.portIdle → s.cp.flags.portFault = true → readingRow c = false →
        exec c s = .next (s.respond (tagOf c) .portFault [])))
  ∧ (∀ (s : State) (ty : Byte) (frame : List Byte),
    let tag := frameTag frame
    let code := (frame[0]?.getD 0).toNat
    let zeros := List.replicate frame.length (0 : Byte)
    let refused := fun (out : List Byte) (st : Status) (c : PortFaultCause) =>
      if 4 ≤ s.placesTaken then (s.clockOut out).flagPortFault .responseLost
      else ((s.clockOut out).flagPortFault c).respond tag st []
    (ty ≠ 1 → ty ≠ 2 → exec (.commandFrame ty frame) s =
      .next (refused ((List.range frame.length).map (Config.unknownTypeByte ty)) .badFrame .badFrame))
    ∧ (malformed frame = true → exec (.commandFrame 1 frame) s = .next (refused zeros .badFrame .badFrame))
    ∧ (malformed frame = false → ¬ (1 ≤ code ∧ code ≤ 43) →
        exec (.commandFrame 1 frame) s = .next (refused zeros .unknownCommand .unknownCommand))
    ∧ (malformed frame = false → 1 ≤ code → code ≤ 43 → readCommand code tag (framePayload frame) = none →
        s.portReady → exec (.commandFrame 1 frame) s = .next ((s.clockOut zeros).respond tag .badValue []))))
  ∧ (∀ (s : State) (n : Nat),
    (s.cp.responses = [] → exec (.fetch n) s =
      .next { s with cp := { s.cp with fetchOut := [0].take n } })
    ∧ (∀ r rest, s.cp.responses = r :: rest →
        let bytes := BitVec.ofNat 8 (rest.length + 1) :: r.frame
        (bytes.length ≤ n → exec (.fetch n) s =
          .next { s with cp := { s.cp with fetchOut := bytes, responses := rest } })
        ∧ (n < bytes.length → exec (.fetch n) s = .next { s with cp := { s.cp with fetchOut := bytes.take n } }))
    ∧ ∀ frame : List Byte, exec (.commandFrame 2 frame) s = exec (.fetch frame.length) s)

/-! ### Resets -/

/-- R37: both reset rows leave the book, the carrier table and the ring empty, the grant state PORT with last lane 12,
and no request waiting or in service. -/
def Obligations.ResetRowsClearEngine : Prop :=
  ∀ (s : State) (a b : Bool), ∃ t, exec (.powerOnReset a b) s = .next t ∧ exec (.resetLine a b) s = .next t
    ∧ t.be.book = [] ∧ t.be.carriers = [] ∧ t.be.ring = []
    ∧ t.be.lastClass = .port ∧ laneNumber t.be.lastLane = 12
    ∧ t.nextGrant = .none ∧ t.cp.inProgress = none ∧ ∀ l, (t.lane l).waitsBE = false

/-- 1.5, 2.8, 3.8, 4.9, 5.10, 6.9, 7.12, 9.7, 10.7, 11.2, 11.4: the whole part as both reset rows leave it, the Book
Engine as R37 and R63 have it among the rest. The pins select the lane count; the pedestals' CTS levels and the
commands still to come are not the part's and stay. The model's own fields, for which the spec has no value, are 0,
clear or absent (notes/assumptions/28.md). 1.5, 2.8, 3.8, 4.9, 5.10, 6.9, 7.12, 9.7, 10.7, 11.3: GATE_RESET waits
while a retirement is held, and served then has the effect it has on a free port; with none held it completes. Visits
and the trouble area are cleared, ARRIVED bookings settled as on a turn-back and ADMITTED ones closed, a WITHDRAWN
one's charge returned; every window stays with its capacities and tallies, its counts lowered by those charges alone;
every operated lane is CLOSED with its settings, filters and stamps kept, its link's queue and buffer emptied with
RESET_KIOSK queued on an ONLINE link; in_transit is zero with the blocks' other fields kept; the time base, the
settings, the carriers, the grant state and the gate flags stay (notes/assumptions/32.md). That all of this is made in
one step, at the grant and not at the acceptance, is the model's choice (notes/assumptions/63.md). -/
def Obligations.ResetsLeavePart : Prop :=
  (∀ (s : State) (a b : Bool), ∃ t, exec (.powerOnReset a b) s = .next t ∧ exec (.resetLine a b) s = .next t
    ∧ t.tb = { minute := none, clock := .unset, sinceSync := 0, lead := 0, laneSec := 0, subMinute := 0
               target := none, p := 5, hx := 20, ticksDue := 0 }
    ∧ t.strap = (if a then 4 else if b then 8 else 12)
    ∧ t.cfg = { e := 30, g := 20, stopMode := .hold, restart := .byCommand, stopPolarity := .normal, stopInput := .both
                sealWindow := 45, damageWindow := 20, weights := t.cfg.weights, tInspect := 12, tHold := 36 }
    ∧ t.cfg.weights.toList = [2, 4, 2, 2, 3, 3, 5]
    ∧ (t.be = { book := [], carriers := [], ring := [], lastRetired := none, lastClass := .port
                lastLane := t.be.lastLane, claimAhead := none }
      ∧ laneNumber t.be.lastLane = 12 ∧ t.nextGrant = .none ∧ ∀ l, (t.lane l).waitsBE = false)
    ∧ t.vt = { visits := [], next := 1, slotWait := [], stagedIn := [], changed := [] }
    ∧ (∀ l, t.lane l = {
          cfg := (t.lane l).cfg, filters := (t.lane l).filters, stamps := (t.lane l).stamps, timers := (t.lane l).timers
          boomCount := 0, axleCount := 0, axleOpen := false, output := .withdrawn, state := .closed, remembered := none
          closing := false, visit := none, sendOff := none, request := .none, owed := [], pendingEntry := none
          pendingPlate := none, plateToSearch := false, promptMode := .identify, nothingEntered := false
          trouble := .none, memApproach := false, memStop := false, approachRef := none, parkRef := none
          wakeArmed := none, lastReleased := none, endedPrompt := none, exitTaken := false, identTold := false
          finalTold := false, keptExpiry := false, keptGrant := false, keptEvents := [], keptAnswers := []
          link := { online := false, rx := .hunt, assembly := [], rxBuf := none, txQueue := [], tx := none
                    flags := noLinkFlags, cts := (s.lane l).link.cts, nextTicket := 0, lastReport := none, reads := 0 } }
      ∧ (t.lane l).cfg = { (t.lane l).cfg with
          sample := 2, depth := 3, raiseLimit := 6, axleTwinMin := 5, parkAfter := 15, pedestalLimit := 180
          holdLimit := 120, clearLimit := 40, linkRate := 19200 }
      ∧ (∀ i : Input, (t.lane l).cfg.polarity[inputIdx i] = .normal
          ∧ (t.lane l).cfg.mode[inputIdx i] = (if i = .axle then .rise else .both)
          ∧ (t.lane l).filters[inputIdx i] = { level := false, run := 0 })
      ∧ (∀ k, (t.lane l).timer k = .stopped)
      ∧ ∀ i : Fin 4, (t.lane l).stamps[i] = { current := none, previous := none })
    ∧ (∀ i : BlockId, t.yd.blocks[i] =
        { kind := .stackExport, opened := false, credit := 0, inTransit := 0, route := 0, label := [] })
    ∧ t.yd.waitList = []
    ∧ (t.td.queue = [] ∧ t.td.admissions = [] ∧ t.td.blocked = [] ∧ ∀ d : DeskId, t.td.desks[d] = .free)
    ∧ t.stop = { inputSource := false, commandSource := false, filter := { level := false, run := 0 } }
    ∧ t.cp = { inProgress := none, responses := [], flags := noGateFlags, faultCause := none, fetchOut := [] }
    ∧ t.attn = false ∧ t.pending = s.pending)
  ∧ (∀ (s : State) (tag : Byte), s.portReady → s.retirementHeld = false → s.bookOk →
    let lost := fun (w : Window) (p : Pool) => s.be.book.countP fun b =>
      decide (b.state = .arrived ∧ b.flags.withdrawn = true ∧ b.tag = w.start ∧ b.pool = p)
    ∃ t, exec (.gateReset tag) s = .next t ∧ Answered s t tag .ok []
    ∧ t.tb = s.tb ∧ t.cfg = s.cfg ∧ t.strap = s.strap ∧ t.stop = s.stop ∧ t.cp.flags = s.cp.flags
    ∧ t.pending = s.pending ∧ t.be = { s.be with book := t.be.book, ring := t.be.ring }
    ∧ t.be.ring = s.be.ring.map (fun w =>
        { w with bookedG := w.bookedG - lost w .general, bookedR := w.bookedR - lost w .reserve })
    ∧ (∀ r b, s.booking? r = some b →
        (b.state ≠ .arrived → b.state ≠ .admitted → t.booking? r = some b)
        ∧ (b.state = .admitted → t.booking? r = some { b with
            state := .consumed, claimant := none, flags := { b.flags with incomplete := true } })
        ∧ (b.state = .arrived → t.booking? r = some { b with
            claimant := none
            state := if b.flags.withdrawn then .cancelled
              else if (s.windowOf b.tag).isSome then .opened else .lapsed }))
    ∧ (∀ r, s.booking? r = none → t.booking? r = none)
    ∧ t.vt = { visits := [], slotWait := [], stagedIn := [], changed := [], next := s.vt.next }
    ∧ (∀ l, s.strapped l = true →
        let x := s.lane l
        t.lane l = { x.cleared with
          state := .closed, remembered := none, closing := false, owed := [], memApproach := false, memStop := false
          boomCount := 0, axleCount := 0, axleOpen := false, keptAnswers := [], timers := (t.lane l).timers
          output := x.output.withdraw (x.reads .boom), link := (t.lane l).link }
        ∧ (∀ k, (t.lane l).timer k = .stopped)
        ∧ (x.link.online = false → (t.lane l).link = { x.link with
            txQueue := [], rxBuf := none, lastReport := (t.lane l).link.lastReport })
        ∧ (x.link.online = true → x.link.tx.isSome = true ∨ x.link.cts = false → (t.lane l).link = { x.link with
            txQueue := [.resetKiosk], rxBuf := none, lastReport := (t.lane l).link.lastReport })
        ∧ (x.link.online = true → x.link.tx = none → x.link.cts = true → (t.lane l).link = { x.link with
            tx := some { msg := .resetKiosk, sent := 0 }, txQueue := [], rxBuf := none
            lastReport := (t.lane l).link.lastReport }))
    ∧ (∀ l, s.strapped l = false → t.lane l = s.lane l)
    ∧ (∀ i : BlockId, t.yd.blocks[i] = { s.yd.blocks[i] with inTransit := 0 }) ∧ t.yd.waitList = []
    ∧ (t.td.queue = [] ∧ t.td.admissions = [] ∧ t.td.blocked = [] ∧ ∀ d : DeskId, t.td.desks[d] = .free))
  ∧ (∀ (s : State) (tag : Byte), s.portReady →
    let waits := { s with cp := { s.cp with inProgress := some { tag, cmd := .gateReset tag, phase := .waiting } } }
    (s.retirementHeld = true → exec (.gateReset tag) s = .next waits ∧ exec (.gateReset tag) waits = .next waits)
    ∧ (s.retirementHeld = false → exec (.gateReset tag) waits = exec (.gateReset tag) s))

/-! ### Readings -/

/-- 1.4, 4.8, 9.6, 11.4: TIME_STATUS, SETTINGS_READ, BLOCK_READ and VISIT_READ on a free port answer at once and
change nothing else. The order of the items and their widths are R207's and, where it leaves them open, the model's
(notes/assumptions/21.md), the order of a live visit's record among them (notes/assumptions/64.md). 2.7, 3.4:
WINDOW_READ and BOOK_FIND, requests of the Book Engine's control-port class, on a free port whose turn it is: the
answer is made, the class served is recorded, and nothing else changes. That a position above 47 is answered NOT_FOUND
is the model's choice (notes/assumptions/38.md), and the codes of single items, among them the ring summary of an
empty ring (notes/assumptions/57.md), and that a BLOCK_READ or VISIT_READ refused BAD_VALUE carries no payload and a
NOT_FOUND of VISIT_READ the table's items (notes/assumptions/52.md), and that a suspended window's remainder is
returned (notes/assumptions/55.md). -/
def Obligations.ReadingsAnswer : Prop :=
  (∀ (s : State) (tag : Byte), s.portIdle →
    exec (.timeStatus tag) s = .next (s.respond tag .ok
      ((match s.tb.minute with
        | some m => [.present, .minute m]
        | none => [.absent])
      ++ [.byte (match s.tb.clock with
            | .unset => 0
            | .locked => 1
            | .holdover => 2
            | .lost => 3)
        , .byte s.tb.sinceSync, .byte s.tb.lead, .word s.tb.laneSec.toNat, .byte s.tb.p, .byte s.tb.hx
        , .byte (s.be.ring.countP fun w => match s.tb.minute with
            | some m => decide (w.start + w.length + s.cfg.g ≤ m)
            | none => false)]))
    ∧ exec (.settingsRead tag) s = .next (s.respond tag .ok
      ([.byte s.tb.p, .byte s.tb.hx, .byte s.cfg.e, .byte s.cfg.g
        , .byte (if s.cfg.stopMode = .hold then 0 else 1), .byte (if s.cfg.restart = .auto then 0 else 1)
        , .byte (if s.cfg.stopPolarity = .normal then 0 else 1), .byte (if s.cfg.stopInput = .both then 0 else 1)
        , .byte s.cfg.sealWindow, .byte s.cfg.damageWindow]
      ++ s.cfg.weights.toList.map Field.byte ++ [.byte s.cfg.tInspect, .byte s.cfg.tHold, .byte s.strap]))
    ∧ (∀ k b, blockOf k = some b →
        exec (.blockRead tag (.block k)) s = .next (s.respond tag .ok ((s.yd.blocks[b]).fields ++ s.yardSummary)))
    ∧ (∀ k, 32 ≤ k → exec (.blockRead tag (.block k)) s = .next (s.respond tag .badValue []))
    ∧ exec (.blockRead tag .all) s =
        .next (s.respond tag .ok (s.yd.blocks.toList.flatMap Block.fields ++ s.yardSummary))
    ∧ exec (.blockRead tag .waitList) s = .next (s.respond tag .ok
        (.byte s.yd.waitList.length :: s.yd.waitList.flatMap (fun e => [.word e.visit, .byte (blockKindByte e.kind)])
          ++ s.yardSummary))
    ∧ ∀ sel : VisitSel,
        let named : Option (Option Visit) := match sel with
          | .number n => some (s.visit? n)
          | .lane k => (laneOf k).map fun l => (s.lane l).visit.bind s.visit?
          | .desk k => (deskOf k).map fun d => match s.td.desks[d] with
              | .serving n _ _ => s.visit? n
              | .free => none
          | .staging p => if p ≤ 23 then some (s.stagingList[p]?.bind s.visit?) else none
        exec (.visitRead tag sel) s = .next (match named with
          | none => s.respond tag .badValue []
          | some none => s.respond tag .notFound s.tableFields
          | some (some v) =>
            if v.stage = .closed then s.respond tag .ok
              ([.word v.number, .byte 5, .byte v.causes.length] ++ v.causes.map (fun c => .byte (causeIdx c))
                ++ s.tableFields)
            else s.respond tag .ok (s.visitFields v ++ s.tableFields)))
  ∧ (∀ (s : State) (tag : Byte), s.portIdle → s.portTurn →
    let served := { s with be := { s.be with lastClass := .port } }
    (∀ sel : WindowSel, sel ≠ .lastRetired →
      let found := match sel with
        | .start n => s.be.ring.find? fun w => decide (w.start = n)
        | .position p => s.be.ring[p]?
        | .running => s.be.ring.find? fun w => match s.tb.minute with
            | some m => decide (w.start ≤ m) && decide (m < w.start + w.length)
            | none => false
        | .lastRetired => none
      exec (.windowRead tag sel) s = .next (match found with
        | some w => served.respond tag .ok (s.windowFields w ++ s.ringSummary)
        | none => served.respond tag .notFound s.ringSummary))
    ∧ exec (.windowRead tag .lastRetired) s = .next (match s.be.lastRetired with
        | some r => served.respond tag .ok (r.fields ++ s.ringSummary)
        | none => served.respond tag .notFound s.ringSummary)
    ∧ (∀ ref, exec (.bookFind tag (.ref ref)) s = .next (match s.be.book.find? fun b => decide (b.ref = ref) with
        | some b => served.respond tag .ok b.fields
        | none => served.respond tag .notFound []))
    ∧ ∀ (t : Text) (key : FindKey) (hits : List Booking),
        (key = .plate t ∧ hits = s.be.book.filter (fun b => decide (b.plate = some t))
          ∨ key = .card t ∧ hits = s.be.book.filter fun b => decide (b.card = some t)) →
        exec (.bookFind tag key) s = .next (
          if hits = [] then served.respond tag .notFound []
          else served.respond tag .ok (.word hits.length :: .byte (min 8 hits.length) :: (hits.take 8).flatMap fun b =>
            [.chars b.ref, .byte (bookingStateByte b.state), .minute b.tag]
              ++ match b.claimant with
                | some n => [.present, .word n]
                | none => [.absent])))

/-- 11.2: GATE_STATUS answers the seven gate flags, the fault cause, the size of the changed set, the strap and
whether a stop-all is in force, as they stand before its mask clears the flags it names; TROUBLE_FULL stays while the
place count is 16. CLEAR_FAULT clears PORT_FAULT. Both are served with PORT_FAULT set, and nothing else changes. 5.8,
5.9, 6.8: LANE_STATUS answers for any lane 1 to 12, whatever the strap, then clears the sticky link flags its mask
names; another lane number is BAD_VALUE. It changes nothing else; a mask that names a flag makes it a changing
command. The count of characters still to send takes a free value, and the order and bytes of both answers, the
causes' 0, 1 and 2 among them, are the model's (notes/assumptions/11.md, 21.md, 48.md and 64.md), as is a send-off
that a lane in FAULT shows (notes/assumptions/66.md). -/
def Obligations.StatusReadsClearFlags : Prop :=
  (∀ (s : State) (tag : Byte) (m : GateMask), s.portIdle →
    exec (.gateStatus tag m) s = .next (({ s with cp := { s.cp with flags :=
        { clockChanged := s.cp.flags.clockChanged && !m.clockChanged
          syncReject := s.cp.flags.syncReject && !m.syncReject
          stopAll := s.cp.flags.stopAll && !m.stopAll
          laneFault := s.cp.flags.laneFault && !m.laneFault
          linkOffline := s.cp.flags.linkOffline && !m.linkOffline
          troubleFull := s.cp.flags.troubleFull && !(m.troubleFull && decide (s.placeCount < 16))
          portFault := s.cp.flags.portFault && !m.portFault } } }).respond tag .ok
      ([s.cp.flags.clockChanged, s.cp.flags.syncReject, s.cp.flags.stopAll, s.cp.flags.laneFault
        , s.cp.flags.linkOffline, s.cp.flags.troubleFull, s.cp.flags.portFault].map flagField
      ++ (match s.cp.faultCause with
          | none => [Field.absent]
          | some .badFrame => [.present, .byte 0]
          | some .unknownCommand => [.present, .byte 1]
          | some .responseLost => [.present, .byte 2])
      ++ [Field.byte s.vt.changed.length, .byte s.strap, flagField (s.stop.inputSource || s.stop.commandSource)]))
    ∧ exec (.clearFault tag) s = .next (({ s with cp := { s.cp with flags :=
        { s.cp.flags with portFault := false } } }).respond tag .ok []))
  ∧ (∀ (s : State) (tag : Byte) (k : Nat) (m : LinkMask), s.portIdle →
    (LinkMask.any m = true → s.cp.flags.portFault = false) →
    (¬ (1 ≤ k ∧ k ≤ 12) → exec (.laneStatus tag k m) s = .next (s.respond tag .badValue []))
    ∧ ∀ l : LaneId, k = l.val + 1 →
        let f := (s.lane l).link.flags
        let cleared : LinkMask :=
          { parity := f.parity && !m.parity, frame := f.frame && !m.frame, badMsg := f.badMsg && !m.badMsg
            brk := f.brk && !m.brk, overrun := f.overrun && !m.overrun }
        let seen : Link := match (s.lane l).link.tx with
          | some x => { (s.lane l).link with
              tx := some { x with sent := min (x.msg.chars.length - 1) (x.sent + Config.charsSince (s.lane l).link.reads) }
              reads := (s.lane l).link.reads + 1 }
          | none => (s.lane l).link
        let read : State := { s with lanes := s.lanes.set l { s.lane l with link := seen } }
        let x := { s.lane l with link := { seen with flags := cleared } }
        exec (.laneStatus tag k m) s =
          .next (({ s with lanes := s.lanes.set l x }).respond tag .ok (read.laneFields l)))

/-! ### The time base -/

/-- 1.4: TIME_SET. A minute above 1,048,575 is BAD_VALUE; with a live visit or a lane not CLOSED it is WRONG_STATE;
taken, it gives the gate minute and returns the counts to 0, and it answers OK at once where no retirement is held,
and else once the windows due by the new minute, up to the last of them, are retired. -/
def Obligations.TimeSetStartsClock : Prop :=
  ∀ (s : State) (tag : Byte) (m : Nat), s.portReady →
    let open? := s.liveCount ≠ 0 ∨ ∃ l, (s.lane l).state ≠ .closed
    (1048575 < m → exec (.timeSet tag m) s = .next (s.respond tag .badValue []))
    ∧ (m ≤ 1048575 → open? → exec (.timeSet tag m) s = .next (s.respond tag .wrongState []))
    ∧ (m ≤ 1048575 → ¬ open? → ∃ t, exec (.timeSet tag m) s = .next t ∧ SameRecords s t
        ∧ t.tb = { s.tb with
            minute := some m, clock := if m = 1048575 then .lost else .locked, lead := 0, sinceSync := 0
            subMinute := 0, target := none, ticksDue := 0 }
        ∧ t.cp.flags = clockFlags s.tb.clock t.tb.clock s.cp.flags
        ∧ (t.retirementHeld = false → Answered s t tag .ok [])
        ∧ (t.retirementHeld = true → InPhase s t tag (.retiring .ok
            ((s.be.ring.filter fun w => decide (w.start + w.length + s.cfg.g ≤ m)).map (·.start)).max?)))

/-- 1.4: TIME_SYNC. In UNSET it is CLOCK_UNSET, above 1,048,575 BAD_VALUE, more than ten minutes back OUT_OF_RANGE
with SYNC_REJECT. Taken, minutes since sync and the sub-minute count become 0 and the clock LOCKED (LOST at the top
minute). Ahead of the gate minute the catch-up begins, level with it the answer is OK, behind it the lead is set; out
of LOST each of the three waits until the windows due by the gate minute are retired, an earlier lead standing and no
target set meanwhile, which is the model's choice (notes/assumptions/23.md). -/
def Obligations.TimeSyncFollowsHost : Prop :=
  ∀ (s : State) (tag : Byte) (m : Nat), s.portReady →
    ((s.tb.minute = none ∨ s.tb.clock = .unset) →
      exec (.timeSync tag m) s = .next (s.respond tag .clockUnset []))
    ∧ ∀ n, s.tb.minute = some n → s.tb.clock ≠ .unset →
      (1048575 < m → exec (.timeSync tag m) s = .next (s.respond tag .badValue []))
      ∧ (m ≤ 1048575 → m + 10 < n →
          exec (.timeSync tag m) s = .next (({ s with cp := { s.cp with flags :=
            { s.cp.flags with syncReject := true } } }).respond tag .outOfRange []))
      ∧ (m ≤ 1048575 → n ≤ m + 10 → ∃ t, exec (.timeSync tag m) s = .next t ∧ SameRecords s t
        ∧ t.tb = { s.tb with
            sinceSync := 0, subMinute := 0, ticksDue := 0, clock := if n = 1048575 then .lost else .locked
            lead := t.tb.lead, target := t.tb.target }
        ∧ t.cp.flags = clockFlags s.tb.clock t.tb.clock s.cp.flags
        ∧ let waits := s.tb.clock = .lost ∧ t.retirementHeld = true
          (waits → t.tb.lead = s.tb.lead ∧ t.tb.target = s.tb.target
            ∧ InPhase s t tag
                (let last := ((s.be.ring.filter fun w => decide (w.start + w.length + s.cfg.g ≤ n)).map (·.start)).max?
                  if n ≤ m then .recoverForward m last else .recoverBackward (n - m) last))
          ∧ (¬ waits →
              (m = n → t.tb.lead = 0 ∧ t.tb.target = none ∧ Answered s t tag .ok [])
              ∧ (n < m → t.tb.lead = 0 ∧ t.tb.target = some m ∧ InPhase s t tag .catchUp)
              ∧ (m < n → t.tb.lead = n - m ∧ t.tb.target = s.tb.target ∧ Answered s t tag .ok [])))

/-- 1.4, 4.6, 5.7, 7.3: one step of the forward catch-up. Without a target it does nothing (notes/assumptions/8.md),
and it waits while a retirement is held (notes/assumptions/23.md); else the gate minute moves to a minute above it and
at most the target, and past no minute at which a retirement or a staged visit falls due, IDLE lanes park, lanes in
APPROACH go IDLE and staged visits become ELIGIBLE as their minutes come, before any retirement due at the same
minute, the model's choice (notes/assumptions/61.md), and the clock state is checked. At the target, with no
retirement held, the catch-up ends and TIME_SYNC answers OK; there already, that is all it does. -/
def Obligations.CatchUpStepWalks : Prop :=
  ∀ s : State,
    ((s.tb.target = none ∨ s.retirementHeld = true) → exec .catchUpStep s = .next s)
    ∧ (∀ m, s.tb.target = some m → ∀ n, s.tb.minute = some n → s.retirementHeld = false → m ≤ n →
      ∃ t, exec .catchUpStep s = .next t ∧ SameRecords s t ∧ t.tb = { s.tb with target := none }
      ∧ t.cp.flags = s.cp.flags
      ∧ (∀ p, s.cp.inProgress = some p → p.phase = .catchUp → Answered s t p.tag .ok [])
      ∧ ((∀ p, s.cp.inProgress = some p → p.phase ≠ .catchUp) → t.cp = s.cp))
    ∧ ∀ m, s.tb.target = some m → ∀ n, s.tb.minute = some n → s.retirementHeld = false → n < m →
      ∃ t, exec .catchUpStep s = .next t ∧ MinuteSide s t ∧ t.be = s.be
      ∧ ∃ k, t.tb.minute = some k ∧ n < k ∧ k ≤ m ∧ MinuteActs s t k
      ∧ t.tb.clock = (if k = 1048575 then .lost
          else match s.tb.clock with
            | .locked => if s.tb.p + s.tb.hx ≤ s.tb.sinceSync then .lost
                else if s.tb.p ≤ s.tb.sinceSync then .holdover else .locked
            | .holdover => if s.tb.p + s.tb.hx ≤ s.tb.sinceSync then .lost else .holdover
            | c => c)
      ∧ (s.tb.clock = .locked ∨ s.tb.clock = .holdover → ∀ w ∈ s.be.ring,
          n < w.start + w.length + s.cfg.g → k ≤ w.start + w.length + s.cfg.g)
      ∧ (∀ v ∈ s.vt.stagedIn, (((s.visit? v).bind (·.staging)).any fun g => !g.eligible) = true →
          n < s.eligibleMinute v → k ≤ s.eligibleMinute v)
      ∧ (t.tb.sinceSync = s.tb.sinceSync ∧ t.tb.lead = s.tb.lead ∧ t.tb.laneSec = s.tb.laneSec
        ∧ t.tb.subMinute = s.tb.subMinute ∧ t.tb.p = s.tb.p ∧ t.tb.hx = s.tb.hx ∧ t.tb.ticksDue = s.tb.ticksDue)
      ∧ (k < m ∨ t.retirementHeld = true → t.tb.target = some m ∧ t.cp.inProgress = s.cp.inProgress
          ∧ t.cp.responses = s.cp.responses)
      ∧ (k = m → t.retirementHeld = false → t.tb.target = none
          ∧ ∀ p, s.cp.inProgress = some p → p.phase = .catchUp → Answered s t p.tag .ok [])

/-- 1.1, 5.4: LANE_SECOND. The lane second count rises by one and wraps at 65536; the sub-minute count rises, and
passing 59 returns to 0 and calls for an internal minute tick, but stays 0 in UNSET; every RUNNING timer falls by one.
The internal tick called for waits in a count of the model's own (notes/assumptions/4.md). Nothing else changes. 1.1,
1.2, 1.3: INTERNAL_MINUTE_TICK, when the lane second has called for one outside UNSET. Minutes since sync rises, to at
most 255; then a lead falls by one, or a catch-up's target rises, or the gate minute rises, to at most 1,048,575. The
state checks follow, and a change of clock state sets CLOCK_CHANGED; as the gate minute moves IDLE lanes park, lanes
in APPROACH go IDLE and staged visits become ELIGIBLE as their minutes come (4.6, 5.7, 7.3), before any retirement due
at the same minute, the model's choice (notes/assumptions/61.md), and with a retirement that falls due the claim whose
turn it is, if one waits, is noted as one that may go before it (notes/assumptions/33.md). Settings, book, ring and
the Control Port's queue stand. Otherwise nothing happens (notes/assumptions/8.md). -/
def Obligations.SecondsAndMinutesCount : Prop :=
  (∀ s : State, ∃ t, exec .laneSecond s = .next t
    ∧ t = { s with tb := t.tb, lanes := t.lanes }
    ∧ t.tb = { s.tb with
        laneSec := s.tb.laneSec + 1
        subMinute := if s.tb.clock = .unset ∨ 59 ≤ s.tb.subMinute then 0 else s.tb.subMinute + 1
        ticksDue := if s.tb.clock ≠ .unset ∧ 59 ≤ s.tb.subMinute then s.tb.ticksDue + 1 else s.tb.ticksDue }
    ∧ ∀ l, t.lane l = { s.lane l with timers := t.lanes[l].timers }
      ∧ ∀ k, (t.lane l).timer k = match (s.lane l).timer k with
          | .running n => .running (n - 1)
          | .suspended n => .suspended n
          | .stopped => .stopped)
  ∧ (∀ s : State,
    ((s.tb.ticksDue = 0 ∨ s.tb.clock = .unset) → exec .internalMinuteTick s = .next s)
    ∧ (s.tb.ticksDue ≠ 0 → s.tb.clock ≠ .unset → s.portSteady → ∃ t, exec .internalMinuteTick s = .next t
      ∧ MinuteSide s t ∧ t.cp.inProgress = s.cp.inProgress ∧ t.cp.responses = s.cp.responses
      ∧ t.tb.ticksDue = s.tb.ticksDue - 1 ∧ t.tb.sinceSync = min 255 (s.tb.sinceSync + 1)
      ∧ (t.tb.laneSec = s.tb.laneSec ∧ t.tb.subMinute = s.tb.subMinute ∧ t.tb.p = s.tb.p ∧ t.tb.hx = s.tb.hx)
      ∧ (0 < s.tb.lead → t.tb.lead = s.tb.lead - 1 ∧ t.tb.minute = s.tb.minute ∧ t.tb.target = s.tb.target)
      ∧ (s.tb.lead = 0 → ∀ m, s.tb.target = some m → t.tb.lead = 0 ∧ t.tb.minute = s.tb.minute
          ∧ t.tb.target = some (min 1048575 (m + 1)))
      ∧ (s.tb.lead = 0 → s.tb.target = none → t.tb.lead = 0 ∧ t.tb.target = none
          ∧ t.tb.minute = some (min 1048575 (s.tb.minute.getD 0 + 1)))
      ∧ t.be.claimAhead = (if t.retirementHeld && !s.retirementHeld then t.claimTurn else none)
      ∧ (∀ n, t.tb.minute = some n → t.tb.minute ≠ s.tb.minute → MinuteActs s t n)
      ∧ (t.tb.minute = s.tb.minute → 0 < s.tb.lead ∨ s.tb.target.isSome = true → t.lanes = s.lanes ∧ t.vt = s.vt)
      ∧ t.tb.clock = (if t.tb.minute = some 1048575 then .lost
          else match s.tb.clock with
            | .locked => if s.tb.p + s.tb.hx ≤ t.tb.sinceSync then .lost
                else if s.tb.p ≤ t.tb.sinceSync then .holdover else .locked
            | .holdover => if s.tb.p + s.tb.hx ≤ t.tb.sinceSync then .lost else .holdover
            | c => c)
      ∧ t.cp.flags.clockChanged = (s.cp.flags.clockChanged || decide (t.tb.clock ≠ s.tb.clock))))

/-- 3.5: RETIREMENT, when the Time Base holds one: the head leaves the ring and becomes the last-retired record with
the gate minute; no OPEN booking of its window is left, each having LAPSED. A staged visit that claims an ARRIVED
booking of that window is abandoned: its bookings are LAPSED in the window that retires, CANCELLED if WITHDRAWN, and
otherwise OPEN again or LAPSED by their window, and it is CLOSED, marked, and off the staging list. An ARRIVED booking
of that window whose claimant stands elsewhere, at a lane, in the queue or at a desk, is unchanged. Where no ARRIVED
booking of that window has a claimant, the rest of the book, every visit and every lane stand and only those bookings
change. A command that waits on the retirements it made due goes on with the last of them (1.4, 11.4), and waits for
no later window: TIME_SET and SETTINGS_WRITE answer, and a TIME_SYNC out of LOST begins its forward work or takes its
lead. That the lead becomes 0 and the forward target m is set only as the last of these retirements is served, an
earlier lead standing till then and a forward target not above the gate minute then ending the work at once, is the
model's choice (notes/assumptions/23.md), as is that with none held nothing happens (notes/assumptions/8.md). -/
def Obligations.RetirementServesHead : Prop :=
  ∀ s : State,
    (s.retirementHeld = false → exec .retirement s = .next s)
    ∧ (∀ w rest, s.be.ring = w :: rest → s.retirementHeld = true → s.portSteady → s.bookOk →
      ∃ t, exec .retirement s = .next t
      ∧ t.tb = s.tb ∧ t.cfg = s.cfg ∧ t.strap = s.strap ∧ t.stop = s.stop ∧ t.pending = s.pending
      ∧ t.cp.inProgress = s.cp.inProgress ∧ t.cp.responses = s.cp.responses
      ∧ t.be.carriers = s.be.carriers ∧ t.be.claimAhead = none
      ∧ t.be.ring.map (fun x => (x.start, x.length, x.cg, x.cr)) = rest.map (fun x => (x.start, x.length, x.cg, x.cr))
      ∧ (∃ r, t.be.lastRetired = some r ∧ r.window.start = w.start ∧ r.servedAt = s.tb.minute.getD 0)
      ∧ (∀ b ∈ t.be.book, b.tag = w.start → b.state ≠ .opened)
      ∧ (s.visitsOk → s.claimsOk → s.standingsOk → ∀ v ∈ s.vt.visits, v.stage = .staged → v.ending = none →
          s.be.book.any (fun b => decide (b.tag = w.start ∧ b.state = .arrived ∧ b.claimant = some v.number)) = true →
          (t.visit? v.number).any (fun u => decide (u = closedVisit v.number u.causes ∧ Cause.closed ∈ u.causes)) = true
          ∧ v.number ∈ t.vt.changed ∧ v.number ∉ t.vt.stagedIn
          ∧ ∀ c ∈ v.claimed, ∀ b, s.booking? c.ref = some b → (t.booking? c.ref).any (fun k => decide (k = { b with
              claimant := none
              state := if b.flags.withdrawn then .cancelled
                else if b.tag ≠ w.start ∧ (s.windowOf b.tag).isSome then .opened else .lapsed })) = true)
      ∧ (s.visitsOk → s.claimsOk → ∀ b ∈ s.be.book, b.tag = w.start → b.state = .arrived → ∀ n, b.claimant = some n →
          (s.visit? n).any (fun v => decide (v.stage ≠ .staged)) = true → t.booking? b.ref = some b)
      ∧ ((∀ b ∈ s.be.book, b.tag = w.start → b.state = .arrived → b.claimant = none) →
          t = { s with be := { s.be with
            ring := rest, claimAhead := none
            lastRetired := some
              { window := w, servedAt := s.tb.minute.getD 0, abandoned := 0
                lapsed := s.be.book.countP fun b => decide (b.tag = w.start) && decide (b.state = .opened) }
            book := t.be.book } }
          ∧ t.be.book = s.be.book.map fun b =>
              if b.tag = w.start ∧ b.state = .opened then { b with state := .lapsed } else b))
    ∧ ∀ p, s.cp.inProgress = some p → p.phase.settles = true → s.retirementHeld = true →
      ∃ t, exec .retirement s = .next t
      ∧ let held := fun last : Option Nat => t.retirementHeld = true ∧ ∃ k, last = some k ∧ ∃ w, t.be.ring.head? = some w
          ∧ w.start ≤ k
        let stands := t.tb = s.tb ∧ t.cp.inProgress = s.cp.inProgress ∧ t.cp.responses = s.cp.responses
        (∀ st last, p.phase = .retiring st last →
          (held last → stands) ∧ (¬ held last → t.tb = s.tb ∧ Answered s t p.tag st []))
        ∧ (∀ m last, p.phase = .recoverForward m last → (held last → stands) ∧ (¬ held last →
            t.tb = { s.tb with lead := 0, target := if m ≤ s.tb.minute.getD 0 then none else some m }
            ∧ (if m ≤ s.tb.minute.getD 0 then Answered s t p.tag .ok [] else InPhase s t p.tag .catchUp)))
        ∧ ∀ n last, p.phase = .recoverBackward n last → (held last → stands)
          ∧ (¬ held last → t.tb = { s.tb with lead := n } ∧ Answered s t p.tag .ok [])

/-! ### Windows -/

/-- 3.4: WINDOW_APPEND, at its turn. The refusals in the entry's order change nothing; taken, the window joins the
tail of the ring with its capacities clamped to 255 and 63, its counts and tallies 0. Nothing else changes. 3.4:
WINDOW_RESIZE, at its turn. An unknown start is NOT_FOUND; else each capacity given is clamped to its range and then
raised to its count, and the answer carries both, OK_CLAMPED if either value given was not the one written. That one
with neither capacity is answered OK is the model's choice (notes/assumptions/38.md). -/
def Obligations.WindowCommandsShapeRing : Prop :=
  (∀ (s : State) (tag : Byte) (start length cg cr : Nat), s.portReady → s.portTurn →
    let served := { s with be := { s.be with lastClass := .port } }
    exec (.windowAppend tag start length cg cr) s = .next (
      if ¬ (15 ≤ length ∧ length ≤ 240 ∧ length % 5 = 0) then served.respond tag .badValue []
      else if 1048575 < start ∨ 1048575 < start + length then served.respond tag .badValue []
      else if 48 ≤ s.be.ring.length then served.respond tag .full []
      else if s.be.ring.getLast?.any (fun t => decide (start < t.start + t.length)) then served.respond tag .outOfRange []
      else if s.tb.minute.any (fun n => decide (start + length ≤ n)) then served.respond tag .outOfRange []
      else if s.be.book.any (fun b => decide (b.tag = start)) then served.respond tag .duplicate []
      else State.respond { served with be := { served.be with ring := s.be.ring ++
          [{ start, length, cg := min 255 cg, cr := min 63 cr, bookedG := 0, bookedR := 0
             arrived := 0, late := 0, absorbed := 0, pulledIn := 0 }] } }
        tag (if 255 < cg ∨ 63 < cr then .okClamped else .ok) []))
  ∧ (∀ (s : State) (tag : Byte) (start : Nat) (cg cr : Option Nat), s.portReady → s.portTurn →
    let served := { s with be := { s.be with lastClass := .port } }
    (s.be.ring.find? (fun w => decide (w.start = start)) = none →
      exec (.windowResize tag start cg cr) s = .next (served.respond tag .notFound []))
    ∧ ∀ w, s.be.ring.find? (fun w => decide (w.start = start)) = some w →
      let g := match cg with
        | some n => max w.bookedG (min 255 n)
        | none => w.cg
      let r := match cr with
        | some n => max w.bookedR (min 63 n)
        | none => w.cr
      exec (.windowResize tag start cg cr) s = .next (State.respond { served with be := { served.be with
          ring := s.be.ring.map fun x => if x.start = start then { x with cg := g, cr := r } else x } }
        tag (if (cg = none ∨ cg = some g) ∧ (cr = none ∨ cr = some r) then .ok else .okClamped) [.byte g, .byte r]))

/-! ### The booking book -/

/-- 2.7: BOOK_ADD, at its turn. The refusals of form and then of place, in the entry's order, change nothing; taken,
the booking joins the book OPEN with no claimant and no flag, its charge raising the count of its pool in its window.
That a move may carry a field its kind does not have is the model's choice (notes/assumptions/36.md). -/
def Obligations.BookAddRecordsBooking : Prop :=
  ∀ (s : State) (tag : Byte) (b : NewBooking), s.portReady → s.portTurn →
    let served := { s with be := { s.be with lastClass := .port } }
    let refuse := fun st : Status => exec (.bookAdd tag b) s = .next (served.respond tag st [])
    (refForm b.ref = false → refuse .badValue)
    ∧ (refForm b.ref = true →
        (∀ st, bookingForm b.plate b.card b.pool b.special b.moves b.preferred = some st → refuse st)
        ∧ (bookingForm b.plate b.card b.pool b.special b.moves b.preferred = none →
          (s.be.book.any (fun k => decide (k.ref = b.ref)) = true → refuse .duplicate)
          ∧ (s.be.book.any (fun k => decide (k.ref = b.ref)) = false →
            (s.carrier? b.carrier = none → refuse .notFound)
            ∧ (s.carrier? b.carrier = some .suspended → refuse .wrongState)
            ∧ (s.carrier? b.carrier = some .active →
              (s.windowOf b.tag = none → refuse .notFound)
              ∧ ∀ w, s.windowOf b.tag = some w →
                (s.due w = true → refuse .wrongState)
                ∧ (s.due w = false → w.cap b.pool ≤ w.count b.pool → refuse .noRoom)
                ∧ (s.due w = false → w.count b.pool < w.cap b.pool → 4096 ≤ s.be.book.length → refuse .full)
                ∧ (s.due w = false → w.count b.pool < w.cap b.pool → s.be.book.length < 4096 →
                  exec (.bookAdd tag b) s = .next (State.respond { served with be := { served.be with
                      book := s.be.book ++
                        [{ ref := b.ref, carrier := b.carrier, plate := b.plate, card := b.card, tag := b.tag
                           pool := b.pool, recL := w.length, special := b.special, moves := b.moves
                           preferred := b.preferred, state := .opened, claimant := none
                           flags := { absorbed := false, pulled := false, withdrawn := false, incomplete := false } }]
                      ring := s.be.ring.map fun x => if x.start = b.tag then x.charge b.pool else x } }
                    tag .ok []))))))

/-- 2.7: BOOK_AMEND, at its turn, of an OPEN booking. The fields given are written under BOOK_ADD's checks of form; a
new tag or pool moves the charge: the new count rises, the old count falls if a charge stood there, and tag, pool and
record of L are rewritten. Every refusal changes nothing. That a move may carry a field its kind does not have is the
model's choice (notes/assumptions/36.md), as is BAD_VALUE where the container check fails besides
(notes/assumptions/53.md). -/
def Obligations.BookAmendRewrites : Prop :=
  ∀ (s : State) (tag : Byte) (ref : Text) (a : Amendment), s.portReady → s.portTurn →
    let served := { s with be := { s.be with lastClass := .port } }
    let refuse := fun st : Status => exec (.bookAmend tag ref a) s = .next (served.respond tag st [])
    (s.booking? ref = none → refuse .notFound)
    ∧ ∀ b, s.booking? ref = some b →
      let plate := match a.plate with
        | .keep => b.plate
        | .clear => none
        | .put t => some t
      let card := match a.card with
        | .keep => b.card
        | .clear => none
        | .put t => some t
      let preferred := match a.preferred with
        | .keep => b.preferred
        | .clear => none
        | .put n => some n
      let newTag := a.tag.getD b.tag
      let pool := a.pool.getD b.pool
      let special := a.special.getD b.special
      let moves := a.moves.getD b.moves
      let put := fun x : Booking => { x with plate, card, special, moves, preferred }
      (b.state ≠ .opened → refuse .wrongState)
      ∧ (b.state = .opened →
        (∀ st, bookingForm plate card pool special moves preferred = some st → refuse st)
        ∧ (bookingForm plate card pool special moves preferred = none →
          (newTag = b.tag → pool = b.pool →
            exec (.bookAmend tag ref a) s = .next (State.respond { served with be := { served.be with
              book := s.be.book.map fun x => if x.ref = ref then put x else x } } tag .ok []))
          ∧ (newTag ≠ b.tag ∨ pool ≠ b.pool →
            (s.windowOf newTag = none → refuse .notFound)
            ∧ ∀ w, s.windowOf newTag = some w →
              (s.due w = true → refuse .wrongState)
              ∧ (s.due w = false → w.cap pool ≤ w.count pool → refuse .noRoom)
              ∧ (s.due w = false → w.count pool < w.cap pool →
                exec (.bookAmend tag ref a) s = .next (State.respond { served with be := { served.be with
                  book := s.be.book.map fun x =>
                    if x.ref = ref then { put x with tag := newTag, pool, recL := w.length } else x
                  ring := s.be.ring.map fun x =>
                    let y := if x.start = newTag then x.charge pool else x
                    if s.holdsCharge b = true ∧ y.start = b.tag then y.discharge b.pool else y } } tag .ok [])))))

/-- 2.7: BOOK_CANCEL, at its turn. An OPEN booking returns its charge and is CANCELLED, a LAPSED one is CANCELLED; an
ADMITTED, CONSUMED or CANCELLED one is WRONG_STATE. A claimed one whose visit is not past its release point is flagged
WITHDRAWN as hold WITHDRAWN is placed, or refused with the refusal of that hold; flagged already it answers OK. -/
def Obligations.BookCancelSettles : Prop :=
  ∀ (s : State) (tag : Byte) (ref : Text), s.portReady → s.portTurn → s.visitsOk →
    let served := { s with be := { s.be with lastClass := .port } }
    let answer := fun st : Status => exec (.bookCancel tag ref) s = .next (served.respond tag st [])
    (s.booking? ref = none → answer .notFound)
    ∧ ∀ b, s.booking? ref = some b →
      (b.state = .opened → exec (.bookCancel tag ref) s = .next (State.respond { served with be := { served.be with
          book := s.be.book.map fun x => if x.ref = ref then { x with state := .cancelled } else x
          ring := s.be.ring.map fun x => if x.start = b.tag then x.discharge b.pool else x } } tag .ok []))
      ∧ (b.state = .lapsed → exec (.bookCancel tag ref) s = .next (State.respond { served with be := { served.be with
          book := s.be.book.map fun x => if x.ref = ref then { x with state := .cancelled } else x } } tag .ok []))
      ∧ (b.state = .admitted ∨ b.state = .consumed ∨ b.state = .cancelled → answer .wrongState)
      ∧ (b.state = .arrived → b.claimant.bind s.live? = none → answer .wrongState)
      ∧ ∀ v, b.claimant.bind s.live? = some v → b.state = .arrived →
        (v.stage = .released → answer .wrongState)
        ∧ (v.stage ≠ .released → b.flags.withdrawn = true → answer .ok)
        ∧ (v.stage ≠ .released → b.flags.withdrawn = false → v.ending.isSome = true → answer .wrongState)
        ∧ (v.stage ≠ .released → b.flags.withdrawn = false → v.ending = none →
          let full := !(v.holds.any fun h => decide (h.reason = .withdrawn)) && decide (v.holds.length = 6)
            && !(v.holds.any fun h => decide (h.reason = .clerk))
          ∃ t, exec (.bookCancel tag ref) s = .next t
          ∧ t.be = { s.be with lastClass := .port, book := t.be.book } ∧ RecordSide s t ∧ t.yd = s.yd
          ∧ (full = true → t.be.book = s.be.book ∧ Answered s t tag .full [])
          ∧ (full = false → Answered s t tag .ok []
            ∧ t.be.book = s.be.book.map (fun x =>
                if x.ref = ref then { x with flags := { x.flags with withdrawn := true } } else x)
            ∧ ∃ w, t.visit? v.number = some w ∧ w.holds.any (fun h => decide (h.reason = .withdrawn)) = true))

/-- 2.7: BOOK_REINSTATE, at its turn. A claimed booking flagged WITHDRAWN loses the flag, and when its visit then
claims no other such booking, hold WITHDRAWN of the visit is released; any other booking is WRONG_STATE, an unknown
ref NOT_FOUND. For a visit that is ending only the flag is cleared and the answer is OK: an inference from 4.1, by
which nothing is written to it any more, and not 2.7's own words (notes/assumptions/25.md). 2.7: BOOK_PURGE, at its
turn. By ref it frees a CANCELLED, LAPSED or CONSUMED booking; by minute every such booking with an earlier tag, and
answers the count. A charge a freed booking still holds is returned; nothing else changes. -/
def Obligations.BookReinstateAndPurge : Prop :=
  (∀ (s : State) (tag : Byte) (ref : Text), s.portReady → s.portTurn → s.bookOk → s.visitsOk →
    let served := { s with be := { s.be with lastClass := .port } }
    (s.booking? ref = none → exec (.bookReinstate tag ref) s = .next (served.respond tag .notFound []))
    ∧ ∀ b, s.booking? ref = some b →
      (¬ (b.state = .arrived ∧ b.flags.withdrawn = true) →
        exec (.bookReinstate tag ref) s = .next (served.respond tag .wrongState []))
      ∧ (b.state = .arrived → b.flags.withdrawn = true →
        let others := b.claimant.any fun n => (s.claimedRefs n).any fun r =>
          decide (r ≠ ref) && (s.booking? r).any fun x => x.flags.withdrawn
        let book := s.be.book.map fun x =>
          if x.ref = ref then { x with flags := { x.flags with withdrawn := false } } else x
        (b.claimant.bind s.writable? = none ∨ others = true → exec (.bookReinstate tag ref) s =
          .next (State.respond { served with be := { served.be with book } } tag .ok []))
        ∧ ∀ v, b.claimant.bind s.writable? = some v → others = false →
          ∃ t, exec (.bookReinstate tag ref) s = .next t ∧ Answered s t tag .ok [] ∧ RecordSide s t
          ∧ t.be = { s.be with lastClass := .port, book }
          ∧ ∃ w, t.visit? v.number = some w
            ∧ w.holds.any (fun h => decide (h.reason = .withdrawn)) = false))
  ∧ (∀ (s : State) (tag : Byte) (form : PurgeForm), s.portReady → s.portTurn → s.bookOk →
    let served := { s with be := { s.be with lastClass := .port } }
    let finished := fun b : Booking => decide (b.state = .cancelled ∨ b.state = .lapsed ∨ b.state = .consumed)
    let held := fun (p : Booking → Bool) (w : Window) (q : Pool) =>
      s.be.book.countP fun b => p b && decide (b.state = .consumed ∧ b.tag = w.start ∧ b.pool = q)
    let lower := fun (p : Booking → Bool) (w : Window) =>
      { w with bookedG := w.bookedG - held p w .general, bookedR := w.bookedR - held p w .reserve }
    let freed := fun (p : Booking → Bool) => { served with be := { served.be with
      book := s.be.book.filter (fun b => !p b), ring := s.be.ring.map (lower p) } }
    (∀ r, form = .ref r →
      (s.booking? r = none → exec (.bookPurge tag form) s = .next (served.respond tag .notFound []))
      ∧ ∀ b, s.booking? r = some b →
        (finished b = false → exec (.bookPurge tag form) s = .next (served.respond tag .wrongState []))
        ∧ (finished b = true → exec (.bookPurge tag form) s =
            .next ((freed fun k => decide (k.ref = r)).respond tag .ok [])))
    ∧ ∀ m, form = .minute m →
      let p := fun b : Booking => finished b && decide (b.tag < m)
      exec (.bookPurge tag form) s = .next ((freed p).respond tag .ok [.word (s.be.book.countP p)]))

/-- 2.3: CARRIER_SET, at its turn. A new code enters the table, ACTIVE or SUSPENDED, while it holds fewer than 128;
REMOVE drops an unused one. A suspension places hold CARRIER on the claimant visits of its ARRIVED bookings, where
their lists take it; a reactivation releases it from each that claims no booking of a carrier still SUSPENDED. -/
def Obligations.CarrierSetWrites : Prop :=
  ∀ (s : State) (tag : Byte) (code : Text) (action : CarrierAction), s.portReady → s.portTurn → s.visitsOk →
    let served := { s with be := { s.be with lastClass := .port } }
    let run := exec (.carrierSet tag code action) s
    let answer := fun st : Status => run = .next (served.respond tag st [])
    let table := fun (l : List Carrier) => { s.be with lastClass := .port, carriers := l }
    let create := fun st : CarrierState =>
      if 128 ≤ s.be.carriers.length then answer .full
      else run = .next (State.respond { s with be := table (s.be.carriers ++ [{ code, state := st }]) } tag .ok [])
    let set := fun st : CarrierState =>
      table (s.be.carriers.map fun c => if c.code = code then { c with state := st } else c)
    let claimants := s.be.book.filterMap fun b =>
      if b.carrier = code ∧ b.state = .arrived then b.claimant else none
    (carrierForm code = false → answer .badValue)
    ∧ (carrierForm code = true →
      (s.carrier? code = none → action = .active → create .active)
      ∧ (s.carrier? code = none → action = .suspended → create .suspended)
      ∧ (s.carrier? code = none → action = .remove → answer .notFound)
      ∧ (s.carrier? code = some .active → action = .active → answer .ok)
      ∧ (s.carrier? code = some .suspended → action = .suspended → answer .ok)
      ∧ ((s.carrier? code).isSome = true → action = .remove →
          (s.be.book.any (fun b => decide (b.carrier = code)) = true → answer .wrongState)
          ∧ (s.be.book.any (fun b => decide (b.carrier = code)) = false → run = .next (State.respond
              { s with be := table (s.be.carriers.filter fun c => decide (c.code ≠ code)) } tag .ok [])))
      ∧ (s.carrier? code = some .active → action = .suspended → ∃ t, run = .next t
          ∧ t.be = set .suspended ∧ RecordSide s t ∧ t.yd = s.yd
          ∧ (∃ p, (t.cp.responses.getLast?).bind (·.payload[0]?) = some p ∧ ∃ q, (t.cp.responses.getLast?).bind (·.payload[1]?) = some q
            ∧ Answered s t tag .ok [p, q])
          ∧ ∀ n ∈ claimants, ∀ v, s.writable? n = some v → v.stage ≠ .released →
              v.holds.length < 6 ∨ v.holds.any (fun h => decide (h.reason = .carrier ∨ h.reason = .clerk)) = true →
              (t.visit? n).any (fun w => w.holds.any fun h => decide (h.reason = .carrier)) = true)
      ∧ (s.carrier? code = some .suspended → action = .active → ∃ t, run = .next t
          ∧ t.be = set .active ∧ RecordSide s t
          ∧ (∃ p, (t.cp.responses.getLast?).bind (·.payload[0]?) = some p ∧ Answered s t tag .ok [p])
          ∧ ∀ n ∈ claimants, (s.writable? n).isSome = true → State.claimsSuspended { s with be := set .active } n = false →
              (t.visit? n).any (fun w => w.holds.any fun h => decide (h.reason = .carrier)) = false))

/-! ### The lanes' requests of the Book Engine -/

/-- 2.6: a search prefers a staged visit's booking; then, of the OPEN bookings with a window in the ring, those of the
earliest tag; then, of the LAPSED ones, those of the latest. It answers NONE exactly when there is none of these. -/
def Obligations.SearchPrefersEarliest : Prop :=
  ∀ (s : State) (k : SearchKey),
    let hits := s.be.book.filter k.hits
    let staged := hits.any fun b => (s.stagedClaimant b).isSome
    let opens := hits.filter fun b => decide (b.state = .opened) && (s.windowOf b.tag).isSome
    let lapsed := hits.filter fun b => decide (b.state = .lapsed)
    let best := if opens = [] then lapsed.filter fun b => lapsed.all fun c => decide (c.tag ≤ b.tag)
      else opens.filter fun b => opens.all fun c => decide (b.tag ≤ c.tag)
    (staged = true → ∃ b ∈ hits, ∃ n, s.stagedClaimant b = some n ∧ s.search k = .resume n b.ref
      ∧ ∀ c ∈ hits, ∀ m, s.stagedClaimant c = some m → b.tag < c.tag ∨ (b.tag = c.tag ∧ n ≤ m))
    ∧ (staged = false → best = [] → s.search k = .none)
    ∧ (staged = false → ∀ a, best = [a] → s.search k = .one a.ref)
    ∧ (staged = false → ∀ a b, best = [a, b] → s.search k = .two a.ref b.ref)
    ∧ (staged = false → 2 < best.length → s.search k = .many best.length)
    ∧ (best = [] ↔ opens = [] ∧ lapsed = [])

/-- 2.5, 2.6, 7.4: BOOK_SEARCH serves the search of the lane whose turn it is, and records the grant. A stopped lane
keeps the answer; a lane in IDENTIFY with no kept expiry claims the one or two bookings named, with many asks for a
ref, and with none only shows its prompt where no entry and no plate waits; a kept expiry makes it HELD, with no claim
begun, which is the model's choice (notes/assumptions/15.md). With another request next, or none, nothing happens,
which is the model's choice (notes/assumptions/8.md). -/
def Obligations.BookSearchServed : Prop :=
  ∀ (s : State) (l : LaneId) (k : SearchKey),
    ((match s.nextFlight with
      | some (_, .search _) => false
      | _ => true) = true → exec .bookSearch s = .next s)
    ∧ (s.nextGrant = .lane l → (s.lane l).owed = [] → (s.lane l).request = .search k →
      let x := s.lane l
      let be := { s.be with lastClass := .lane, lastLane := l, claimAhead := none }
      let lane := fun y : Lane => { s with be, lanes := s.lanes.set l y }
      let asks := fun refs : List Text => exec .bookSearch s = .next (lane { x with request := .claim refs })
      let kept := x.keptAnswers ++ [.search (s.search k)]
      (x.state = .fault .stopped →
        exec .bookSearch s = .next (lane { x with request := .none, keptAnswers := kept }))
      ∧ (x.state = .identify → x.visit.isSome = true → x.keptExpiry = false →
        (∀ n r, s.search k = .resume n r → asks [r])
        ∧ (∀ r, s.search k = .one r → asks [r])
        ∧ (∀ a b, s.search k = .two a b → asks [a, b]))
      ∧ ∃ t, exec .bookSearch s = .next t ∧ t.be = be ∧ RecordSide s t ∧ t.cp.inProgress = s.cp.inProgress
        ∧ t.cp.responses = s.cp.responses
        ∧ (s.search k = .none → x.state = .identify → x.visit.isSome = true → x.keptExpiry = false →
            x.plateToSearch = false → x.pendingEntry = none →
            t = lane { x with request := .none, link := (t.lane l).link })
        ∧ ((match s.search k with
            | .many _ => true
            | _ => false) = true → x.state = .identify → x.visit.isSome = true → x.keptExpiry = false →
            (t.lane l).promptMode = .enterRef)
        ∧ (x.state = .identify → x.visit.isSome = true → x.keptExpiry = true →
            (t.lane l).state = .held ∧ (t.lane l).keptExpiry = false))

/-- 2.6, 3.3, 3.6, 4.6: CLAIM serves the claim of the lane whose turn it is, for the visit it binds. With no booking
of a staged visit among the refs and at most two bookings in all, each OPEN or LAPSED booking named becomes ARRIVED
with the visit its claimant and joins the visit; every other booking stands. With more than two, none is claimed.
Bookings are judged by clock, charge and offset. Where the EARLY ones do not all find room in the pools of a running
window, counted together (3.6), the outcome is STAGE: no charge moves, EARLY_STAGED and DEFERRED are written, and a
staging place is reserved to the greatest eligible minute as the STAGING send-off begins, or, with 24 places taken,
the visit is abandoned. One booking alone is ON_TIME, LATE_GRACE or UNJUDGED where it is, pulled forward, absorbed, or
LATE_UNPLACED, with its charge moved, its flag and window's tallies raised, and NO_SLOT where the list takes it. A ref
of a staged visit resumes that visit, for a lane whose new one claims none: the new one is closed, and the staged one,
bound to the lane and AT_LANE there, leaves the staging list with its staging record and pseudo-stop cleared, keeps
its arrival, bookings, moves, holds and stray reads, takes the new arrival second and axle count and the plate and
card read now, and its bookings are judged again in the same way; it goes on to CHECKING, its sealed drops open, or to
staging again. With another request next, or a visit that is ending, only the grant is made (notes/assumptions/8.md).
That the abandoned visit stays bound, and RESERVE in flight, until its bookings step is the model's reading
(notes/assumptions/13.md and 42.md), as is the room NO_SLOT finds before CARRIER (notes/assumptions/27.md). -/
def Obligations.ClaimBindsBookings : Prop :=
  ∀ (s : State) (l : LaneId) (n : Nat) (refs : List Text) (v : Visit),
    let be := { s.be with lastClass := .lane, lastLane := l, claimAhead := none }
    ((match s.nextFlight with
      | some (_, .claim _) => false
      | _ => true) = true → exec .claim s = .next s)
    ∧ (s.nextGrant = .lane l → (s.lane l).owed = [] → (s.lane l).request = .claim refs →
      (s.lane l).visit.bind s.writable? = none →
      exec .claim s = .next { s with be, lanes := s.lanes.set l ({ s.lane l with request := .none } : Lane) })
    ∧ (s.nextGrant = .lane l → (s.lane l).owed = [] →
      (s.lane l).request = .claim refs → (s.lane l).visit = some n → s.writable? n = some v → v.stage = .atLane →
      s.bookOk → s.visitsOk →
      let free := fun b : Booking => decide (b.ref ∈ refs) && decide (b.state = .opened ∨ b.state = .lapsed)
      let taken := refs.filter fun r => (s.booking? r).any free
      let resumed := if v.claimed = [] then
          (refs.findSome? fun r => (s.booking? r).bind s.stagedClaimant).bind s.visit?
        else none
      let base := resumed.getD v
      let bs := match resumed with
        | some u => u.claimed.filterMap fun c => s.booking? c.ref
        | none => taken.filterMap s.booking?
      let here := (s.lane l).state = .identify ∨ (s.lane l).state = .fault .stopped
      let resumes := resumed.isSome = true ∧ here ∧ v.moves = [] ∧ v.lane = some l ∧ s.standingsOk
      let now := s.tb.minute.getD 0
      let charged := fun b : Booking => decide (b.state ≠ .lapsed ∧ b.state ≠ .cancelled) && (s.windowOf b.tag).isSome
      let len := fun b : Booking => match s.windowOf b.tag with
        | some w => w.length
        | none => b.recL
      let d := fun b : Booking => (now : Int) - b.tag
      let cls := fun b : Booking => if s.tb.clock = .lost then ArrivalClass.unjudged
        else if charged b = false then .late
        else if d b < -(s.cfg.e : Int) then .early
        else if d b < len b then .onTime
        else if d b < len b + s.cfg.g then .lateGrace
        else .late
      let run := s.be.ring.find? fun w => s.tb.minute.any fun m => decide (w.start ≤ m ∧ m < w.start + w.length)
      let target := fun b : Booking => run.bind fun w =>
        if b.special ≠ .plain ∧ w.bookedR < w.cr then some (w, Pool.reserve)
        else if w.bookedG < w.cg then some (w, .general) else none
      let early := bs.filter fun b => decide (cls b = .early)
      let plain := early.countP fun b => decide (b.special = .plain)
      let stage := match run with
        | some w => decide (w.cg - w.bookedG < plain + (early.length - plain - (w.cr - w.bookedR)))
        | none => !early.isEmpty
      let eligible := (early.map fun b => b.tag - s.cfg.e).foldl max 0
      let places := if resumed.any (fun u => s.vt.stagedIn.contains u.number) then s.stagingCount - 1 else s.stagingCount
      ∃ t, exec .claim s = .next t
      ∧ t.be = { be with book := t.be.book, ring := t.be.ring }
      ∧ RecordSide s t ∧ t.cp.inProgress = s.cp.inProgress ∧ t.cp.responses = s.cp.responses
      ∧ (resumed = none → v.claimed.length + taken.length ≤ 2 →
          (∀ b ∈ s.be.book, free b = false → b ∈ t.be.book)
          ∧ (∀ b ∈ s.be.book, free b = true → ∃ k ∈ t.be.book, k.ref = b.ref ∧ k.state = .arrived
              ∧ k.claimant = some n ∧ k.moves = b.moves ∧ k.carrier = b.carrier)
          ∧ (t.visit? n).any (fun w => decide (w.claimed.map (·.ref) = v.claimed.map (·.ref) ++ taken)) = true
          ∧ (stage = true → (s.lane l).state = .identify → 24 ≤ s.stagingCount →
              (t.visit? n).any (fun u => decide (u.ending = some .abandon)) = true ∧ (t.lane l).visit = some n
              ∧ (t.lane l).request = .reserve eligible ∧ (t.lane l).owed = [.ending n .abandon]))
      ∧ ((resumed = none ∧ v.claimed.length + taken.length ≤ 2) ∨ resumes →
          let wrote := fun (b : Booking) (st : Standing) => (t.visit? base.number).any fun u => u.claimed.any fun c =>
            decide (c.ref = b.ref ∧ c.standing = st ∧ c.holdover = decide (s.tb.clock = .holdover))
          let bound := fun b : Booking => if resumed.isSome then b
            else { b with state := .arrived, claimant := some n }
          (stage = true → t.be.ring = s.be.ring
            ∧ (∀ b ∈ bs, wrote b (if cls b = .early then .earlyStaged else .deferred) = true)
            ∧ (∀ b ∈ bs, t.booking? b.ref = some (bound b))
            ∧ ((s.lane l).state = .identify → places < 24 → (s.lane l).link.online = true →
                (t.visit? base.number).any (fun u => decide (u.staging = some { minute := eligible, eligible := false }
                  ∧ u.direction = some (.staging eligible))) = true
                ∧ (t.lane l).state = .directed ∧ (t.lane l).visit = some base.number
                ∧ (t.lane l).sendOff.any (fun o => decide (o.dest = .staging ∧ o.ticket = .awaited
                    ∧ o.minute = some eligible)) = true))
          ∧ (early = [] → ∀ b ∈ bs, (cls b = .onTime → wrote b .onTime = true)
              ∧ (cls b = .lateGrace → wrote b .lateGrace = true) ∧ (cls b = .unjudged → wrote b .unjudged = true))
          ∧ ∀ b, bs = [b] → stage = false →
            let moved : Option (Window × Pool) := match cls b with
              | .early => target b
              | .late => run.bind fun w => if w.bookedG < w.cg then some (w, .general) else none
              | _ => none
            let st : Standing := match cls b with
              | .unjudged => Standing.unjudged
              | .onTime => .onTime
              | .lateGrace => .lateGrace
              | .early => .earlyPulled
              | .late => if moved.isSome then .lateAbsorbed else .lateUnplaced
            let noSlot := decide (st = .lateUnplaced) || (decide (st = .unjudged) && !charged b)
            let has := fun (u : Visit) (q : HoldReason) => u.holds.any fun h => decide (h.reason = q)
            let up := fun (c : Bool) (k : Nat) => if c then min 65535 (k + 1) else k
            let place := match moved with
              | some (w, _) => w.start
              | none => b.tag
            let put := fun x : Window => match moved with
              | some (w, p) =>
                let y := if x.start = w.start then x.charge p else x
                if charged b = true ∧ y.start = b.tag then y.discharge b.pool else y
              | none => x
            let tallied := fun x : Window => if x.start = place ∧ st ≠ .lateUnplaced then
              { x with
                arrived := up true x.arrived, late := up (decide (st = .lateGrace)) x.late
                pulledIn := up (decide (st = .earlyPulled)) x.pulledIn
                absorbed := up (decide (st = .lateAbsorbed)) x.absorbed } else x
            wrote b st = true
            ∧ t.be.ring = s.be.ring.map (fun x => tallied (put x))
            ∧ t.booking? b.ref = some { bound b with
                tag := place
                pool := match moved with
                  | some (_, p) => p
                  | none => b.pool
                recL := match moved with
                  | some (w, _) => w.length
                  | none => b.recL
                flags := { b.flags with
                  pulled := b.flags.pulled || decide (st = .earlyPulled)
                  absorbed := b.flags.absorbed || decide (st = .lateAbsorbed) } }
            ∧ (t.visit? base.number).any (fun u => decide (has u .noSlot = (has base .noSlot
                || (noSlot && (decide (base.holds.length < 6) || has base .clerk))))) = true)
      ∧ (resumed = none → 2 < v.claimed.length + taken.length → t.be = be)
      ∧ ∀ u, resumed = some u → (t.visit? n).any (fun w => decide (w.stage = .closed)) = true
          ∧ t.be.book.map (fun b => (b.ref, b.state, b.claimant)) = s.be.book.map (fun b => (b.ref, b.state, b.claimant))
          ∧ (resumes → (stage = true → (s.lane l).state = .identify → places < 24 ∧ (s.lane l).link.online = true) →
            let bare : Visit → List MoveEntry := fun w => w.moves.map fun m => { m with sealRec := none }
            let went := decide (stage = true ∧ (s.lane l).state = .identify)
            (t.lane l).visit = some u.number ∧ u.number ∉ t.vt.stagedIn ∧ u.number ∈ t.vt.changed
            ∧ (t.visit? u.number).any (fun w =>
                decide (w.stage = .atLane ∧ w.lane = some l ∧ w.ending = none ∧ w.arrival = u.arrival
                  ∧ w.arrivalSec = v.arrivalSec ∧ w.axle = v.axle ∧ w.plate = v.plate.or u.plate
                  ∧ w.card = v.card.or u.card ∧ w.claimed.map (·.ref) = u.claimed.map (·.ref) ∧ bare w = bare u
                  ∧ w.stray = u.stray)
                && (u.holds.all fun h => decide (h.reason = .clerk) || w.holds.any fun k => decide (k.reason = h.reason))
                && (went || decide (w.staging = none ∧ w.direction = match u.direction with
                    | some (.staging _) => none
                    | d => d))) = true
            ∧ ((s.lane l).state = .identify → stage = false →
                ((t.lane l).state = .checking ∨ (t.lane l).state = .held)
                ∧ (t.visit? u.number).any (fun w => w.moves.all fun m =>
                    m.sealRec.all fun r => decide (r.window ≠ .notOpened)) = true)))

/-- 2.6, 10.6: ADMISSION makes each ARRIVED booking of the visit ADMITTED: for the lane whose turn it is, whose owed
request is met, or for DESK_SEND, which answers OK with its desk FREE. With another request next nothing happens
(notes/assumptions/8.md), and the answer opens with the byte of an absent desk (notes/assumptions/20.md and 21.md). -/
def Obligations.AdmissionAdmits : Prop :=
  ∀ (s : State) (n : Nat),
    let book := s.be.book.map fun b =>
      if b.ref ∈ s.claimedRefs n ∧ b.state = .arrived then { b with state := .admitted } else b
    (∀ p, s.cp.inProgress = some p → s.nextGrant = .port → p.phase = .admitting n →
      exec .admission s = .next (State.respond { s with
          be := { s.be with book, lastClass := .port }, cp := { s.cp with inProgress := none } } p.tag .ok [.absent]))
    ∧ (∀ l rest, (s.lane l).owed = .admission n :: rest → s.nextGrant = .lane l →
      exec .admission s = .next { s with
        be := { s.be with book, lastClass := .lane, lastLane := l, claimAhead := none }
        lanes := s.lanes.set l ({ s.lane l with owed := rest } : Lane) })
    ∧ ((s.nextGrant = .retirement ∨ s.nextGrant = .none) → exec .admission s = .next s)

/-- 2.6, 4.4: ENDING_BOOKINGS settles the bookings of an ending visit, for the lane whose turn it is or the command in
progress, which is then answered: CONSUMED at a close, INCOMPLETE where a move it owns is not DONE; on a turn-back or
abandon CANCELLED with its charge returned if WITHDRAWN, else OPEN with its window in the ring and LAPSED without. The
visit is CLOSED and stands in the changed set. A lane whose abandon a refused staging place caused then binds no visit
and begins a BACK send-off with the minute it asked for: 7.5 gives the send-off, and that it begins at this step is
the model's reading (notes/assumptions/42.md). With another request next nothing happens (notes/assumptions/8.md); the
answers' layout is the model's (notes/assumptions/20.md and 21.md). -/
def Obligations.EndingBookingsSettles : Prop :=
  ∀ (s : State) (n : Nat) (k : EndKind) (v : Visit), s.bookOk → s.visitsOk → s.visit? n = some v →
    let undone := fun b : Booking => v.moves.any fun m => decide (m.owner = b.ref ∧ m.state ≠ .done)
    let back := fun b : Booking => if b.flags.withdrawn then BookingState.cancelled
      else if (s.windowOf b.tag).isSome then .opened else .lapsed
    let settled := fun b : Booking =>
      if b.ref ∉ v.claimed.map (·.ref) then b
      else if k = .close then
        { b with
          state := .consumed, claimant := none
          flags := { b.flags with incomplete := b.flags.incomplete || undone b } }
      else { b with claimant := none, state := back b }
    let lost := fun (w : Window) (p : Pool) => if k = .close then 0 else s.be.book.countP fun b =>
      decide (b.ref ∈ v.claimed.map (·.ref) ∧ b.flags.withdrawn = true ∧ b.tag = w.start ∧ b.pool = p)
        && b.state.charged
    let ended := fun t : State => t.be.book = s.be.book.map settled ∧ t.be.carriers = s.be.carriers
      ∧ t.be.ring = s.be.ring.map (fun w =>
          { w with bookedG := w.bookedG - lost w .general, bookedR := w.bookedR - lost w .reserve }) ∧ RecordSide s t
      ∧ t.yd = s.yd ∧ n ∈ t.vt.changed
      ∧ (t.visit? n).any (fun w => decide (w = closedVisit n w.causes) && decide (Cause.closed ∈ w.causes)) = true
    (∀ p, s.cp.inProgress = some p → s.nextGrant = .port → p.phase = .ending n k →
      ∃ t, exec .endingBookings s = .next t ∧ ended t ∧ Answered s t p.tag .ok (match p.cmd with
        | .visitClose .. => [.byte (v.moves.countP fun m => decide (m.state ≠ .done))]
        | .deskTurnBack .. => .absent :: .byte v.claimed.length :: v.claimed.flatMap fun c =>
            [.chars c.ref, .byte (((t.booking? c.ref).map fun b => bookingStateByte b.state).getD 0)]
        | _ => []))
    ∧ (∀ l rest, (s.lane l).owed = .ending n k :: rest → s.nextGrant = .lane l →
      ∃ t, exec .endingBookings s = .next t ∧ ended t ∧ (t.lane l).owed = rest
      ∧ t.cp.inProgress = s.cp.inProgress ∧ t.cp.responses = s.cp.responses
      ∧ ∀ m, (s.lane l).request = .reserve m → k = .abandon → (s.lane l).state = .identify → (s.lane l).armUp = false →
        (t.lane l).visit = none ∧ (t.lane l).request = .none ∧ (t.lane l).state = .directed
        ∧ (t.lane l).sendOff.any (fun o => decide (o.dest = .back ∧ o.minute = some m ∧ o.raiseOrdered = true)) = true
        ∧ (t.lane l).output = .asserted ∧ (t.lane l).timer .raise = .running (s.lane l).cfg.raiseLimit)
    ∧ ((s.nextGrant = .retirement ∨ s.nextGrant = .none) → exec .endingBookings s = .next s)

/-! ### Holds and visits -/

/-- 4.5: HOLD_PLACE. NO_YARD, WITHDRAWN and a desk number outside 1 to 4 are BAD_VALUE, an unknown visit NOT_FOUND, a
desk that does not serve the visit WRONG_STATE, as is a visit released or ending. Else the first case of the table
that fits writes the list: the source replaced, the hold added, CLERK displaced, or FULL. The visit is marked; no
other visit changes, and no lane but the one at a YARD send-off with the visit when the list gains a hold, which goes
back to HELD. The marks 0, 1 and 2 of the answers are the model's (notes/assumptions/21.md). -/
def Obligations.HoldPlaceFollowsTable : Prop :=
  ∀ (s : State) (tag : Byte) (n : Nat) (r : HoldReason) (desk : Option Nat), s.portReady → s.visitsOk →
    let run := exec (.holdPlace tag n r desk) s
    let answer := fun st : Status => run = .next (s.respond tag st [])
    let badDesk := desk.any fun d => decide (¬ (1 ≤ d ∧ d ≤ 4))
    let wrong := (desk.bind deskOf).any fun d => match s.td.desks[d] with
      | .serving m _ _ => decide (m ≠ n)
      | .free => true
    (badDesk = true ∨ r = .noYard ∨ r = .withdrawn → answer .badValue)
    ∧ (badDesk = false → r ≠ .noYard → r ≠ .withdrawn →
      (s.live? n = none → answer .notFound)
      ∧ ∀ v, s.live? n = some v →
        (wrong = true → answer .wrongState)
        ∧ (wrong = false → v.ending.isSome = true ∨ v.stage = .released → answer .wrongState)
        ∧ (wrong = false → v.ending = none → v.stage ≠ .released →
          let src := if desk.isSome then HoldSource.desk else .host
          let new : Hold := { reason := r, source := src, placed := s.tb.minute.getD 0 }
          let has := fun q => v.holds.any fun h => decide (h.reason = q)
          let gains := !has r && (decide (v.holds.length < 6) || has .clerk)
          let list :=
            if has r then v.holds.map fun h => if h.reason = r then { h with source := src } else h
            else if v.holds.length < 6 then v.holds ++ [new]
            else if has .clerk then (v.holds.filter fun h => decide (h.reason ≠ .clerk)) ++ [new]
            else v.holds
          let told := fun l => decide (v.stage = .atLane ∧ v.lane = some l ∧ (s.lane l).visit = some n
            ∧ (s.lane l).state = .directed) && (s.lane l).sendOff.any fun o => decide (o.dest = .yard)
          ∃ t, run = .next t ∧ RecordSide s t ∧ t.be = s.be ∧ t.yd = s.yd
          ∧ t.vt = ((s.modVisit n fun w => { w with holds := list }).mark n .holds).vt
          ∧ (t.td.queue = s.td.queue ∧ t.td.admissions = s.td.admissions ∧ t.td.blocked = s.td.blocked)
          ∧ (∀ l, gains = false ∨ told l = false → t.lane l = s.lane l)
          ∧ (∀ l, gains = true → told l = true → (t.lane l).state = .held ∧ (t.lane l).sendOff = none
              ∧ (t.lane l).visit = some n)
          ∧ (if has r then Answered s t tag .ok [.byte 1]
            else if v.holds.length < 6 then Answered s t tag .ok [.byte 0]
            else if has .clerk then Answered s t tag .ok [.byte 2]
            else Answered s t tag .full [])))

/-- 4.5: HOLD_RELEASE. A desk number outside 1 to 4 is BAD_VALUE; an unknown visit, and a reason the visit does not
hold, NOT_FOUND with their marks; a desk that does not serve the visit, NO_YARD, WITHDRAWN and an ending visit
WRONG_STATE. Else the hold leaves the list; with the list of a QUEUED visit emptied CLERK takes its place. While holds
remain, and at a desk or in the queue, nothing else changes but the mark and a desk's ready mark; with none left, a
HELD lane of the visit with no request asks for a direction. The marks of the answers are the model's
(notes/assumptions/21.md), as is WRONG_STATE for an ending visit (notes/assumptions/25.md) and its place among the
checks for NO_YARD and WITHDRAWN (notes/assumptions/45.md). -/
def Obligations.HoldReleaseRemoves : Prop :=
  ∀ (s : State) (tag : Byte) (n : Nat) (r : HoldReason) (desk : Option Nat), s.portReady → s.visitsOk →
    let run := exec (.holdRelease tag n r desk) s
    let answer := fun (st : Status) (p : List Field) => run = .next (s.respond tag st p)
    let badDesk := desk.any fun d => decide (¬ (1 ≤ d ∧ d ≤ 4))
    let wrong := (desk.bind deskOf).any fun d => match s.td.desks[d] with
      | .serving m _ _ => decide (m ≠ n)
      | .free => true
    (badDesk = true → answer .badValue [])
    ∧ (badDesk = false → s.live? n = none → answer .notFound [.byte 0])
    ∧ (badDesk = false → ∀ v, s.live? n = some v →
      let has := v.holds.any fun h => decide (h.reason = r)
      let refused := wrong || decide (r = .noYard) || decide (r = .withdrawn) || v.ending.isSome
      (refused = true → answer .wrongState [])
      ∧ (refused = false → has = false → answer .notFound [.byte 1])
      ∧ (refused = false → has = true →
        let left := v.holds.filter fun h => decide (h.reason ≠ r)
        let clerk := left.isEmpty && decide (v.stage = .queued)
        let list := if clerk then [{ reason := .clerk, source := .system, placed := s.tb.minute.getD 0 }] else left
        ∃ t, run = .next t ∧ RecordSide s t ∧ t.be = s.be ∧ t.yd = s.yd
        ∧ Answered s t tag .ok [.byte (if clerk then 1 else 0)]
        ∧ (left ≠ [] ∨ v.stage ≠ .atLane →
            t.vt = ((s.modVisit n fun w => { w with holds := list }).mark n .holds).vt ∧ t.lanes = s.lanes
            ∧ t.td = { s.td with desks := t.td.desks })
        ∧ (∀ l, left = [] → v.stage = .atLane → v.lane = some l → (s.lane l).visit = some n → (s.lane l).state = .held →
            t.vt = ((s.modVisit n fun w => { w with holds := list }).mark n .holds).vt ∧ t.td = s.td
            ∧ (∀ k, k ≠ l → t.lane k = s.lane k)
            ∧ ((s.lane l).request = .none → t.lane l = { s.lane l with request := .direction }))))

/-- 4.7: TAKE_CHANGED. It answers EMPTY on an empty set. Else the head of the set is reported and leaves it: a live
visit's pending causes are cleared, and a CLOSED visit's slot is free again, which the lane at the head of the
slot-wait list is granted: it then binds the newest visit. Nothing else changes where no lane waits. The bytes of the
report and their order are the model's (notes/assumptions/21.md). -/
def Obligations.TakeChangedReportsHead : Prop :=
  ∀ (s : State) (tag : Byte), s.portIdle → s.visitsOk →
    (s.vt.changed = [] → exec (.takeChanged tag) s = .next (s.respond tag .empty []))
    ∧ ∀ n rest, s.vt.changed = n :: rest → ∀ v, s.visit? n = some v →
      let head := [Field.word n, .byte v.causes.length] ++ v.causes.map fun c => .byte (causeIdx c)
      let count := fun st : MoveState => Field.byte (v.moves.countP fun m => decide (m.state = st))
      (v.stage ≠ .closed → exec (.takeChanged tag) s = .next (State.respond { s with vt := { s.vt with
          changed := rest
          visits := s.vt.visits.map fun w => if w.number = n then { w with causes := [] } else w } } tag .ok
        (head ++ [.byte (stageByte v.stage)]
          ++ (match v.lane with
            | some l => [Field.present, .byte (l.val + 1)]
            | none => [.absent])
          ++ (match v.desk with
            | some d => [Field.present, .byte (d.val + 1)]
            | none => [.absent])
          ++ [.byte v.holds.length, count .pending, count .directed, count .done, count .cancelled])))
      ∧ (v.stage = .closed → s.vt.slotWait = [] →
        exec (.takeChanged tag) s = .next (State.respond { s with vt := { s.vt with
          changed := rest, visits := s.vt.visits.filter fun w => decide (w.number ≠ n) } } tag .ok (head ++ [.byte 5])))
      ∧ (v.stage = .closed → ∀ l waiting, s.vt.slotWait = l :: waiting →
        ∃ t, exec (.takeChanged tag) s = .next t ∧ RecordSide s t ∧ Answered s t tag .ok (head ++ [.byte 5])
        ∧ t.be = s.be ∧ t.yd = s.yd ∧ t.td = s.td ∧ t.vt.slotWait = waiting ∧ (∀ k, k ≠ l → t.lane k = s.lane k)
        ∧ ∃ w, t.vt.visits.getLast? = some w ∧ (t.lane l).visit = some w.number ∧ w.lane = some l ∧ w.stage = .atLane)

/-! ### Lane commands -/

/-- 5.9, 6.2: LANE_CONFIG. A value outside its list, and a lane number outside 1 to 12, are BAD_VALUE; a lane above
the strap OUT_OF_RANGE; a lane not CLOSED, or with its output not WITHDRAWN, WRONG_STATE. Else the settings given are
written, each number clamped to its range; an input whose polarity or mode changed starts inactive; a new LINK_RATE
leaves the link OFFLINE and empty, its lost tickets reported. Nothing else changes. 7.2, 5.6: LANE_OPEN. A lane number
outside 1 to 12 is BAD_VALUE, above the strap OUT_OF_RANGE, in UNSET CLOCK_UNSET, a lane not CLOSED or with its output
not WITHDRAWN WRONG_STATE. Else a CLOSED lane that keeps no memory enters IDLE with its items clear and parks from
this minute; while a stop-all is in force it enters FAULT STOPPED remembering IDLE, with no parking reference. -/
def Obligations.LaneConfigAndOpen : Prop :=
  (∀ (s : State) (tag : Byte) (k : Nat) (op : LaneConfigOp), s.portReady →
    let run := exec (.laneConfig tag k op) s
    let answer := fun st : Status => run = .next (s.respond tag st [])
    let listed := op.sample.all (fun n => decide (n = 1 ∨ n = 2 ∨ n = 5 ∨ n = 10))
      && op.linkRate.all fun n => decide (n = 9600 ∨ n = 19200 ∨ n = 38400)
    (listed = false ∨ ¬ (1 ≤ k ∧ k ≤ 12) → answer .badValue)
    ∧ (listed = true → ∀ l : LaneId, k = l.val + 1 →
      let x := s.lane l
      let clamp := fun (lo hi : Nat) (given : Option Nat) (old : Nat) => match given with
        | some n => max lo (min hi n)
        | none => old
      let out := fun (lo hi : Nat) (given : Option Nat) => given.any fun n => decide (n < lo ∨ hi < n)
      let clamped := out 2 8 op.depth || out 2 15 op.raiseLimit || out 2 9 op.axleTwinMin || out 1 60 op.parkAfter
        || out 30 600 op.pedestalLimit || out 30 900 op.holdLimit || out 10 120 op.clearLimit
      (s.strap ≤ l.val → answer .outOfRange)
      ∧ (l.val < s.strap → x.state ≠ .closed ∨ x.output ≠ .withdrawn → answer .wrongState)
      ∧ (l.val < s.strap → x.state = .closed → x.output = .withdrawn →
        ∃ t, run = .next t
        ∧ (let y : Lane := { x with cfg := (t.lane l).cfg, filters := (t.lane l).filters, link := (t.lane l).link }
          t = State.respond { s with lanes := s.lanes.set l y } tag (if clamped then .okClamped else .ok) [])
        ∧ (∀ i : Fin 6, (t.lane l).cfg.polarity[i] = op.polarity[i].getD x.cfg.polarity[i]
            ∧ (t.lane l).cfg.mode[i] = op.mode[i].getD x.cfg.mode[i]
            ∧ (t.lane l).filters[i] = if (t.lane l).cfg.polarity[i] ≠ x.cfg.polarity[i]
                ∨ (t.lane l).cfg.mode[i] ≠ x.cfg.mode[i] then { level := false, run := 0 } else x.filters[i])
        ∧ t.lane l = { t.lane l with cfg := { (t.lane l).cfg with
            sample := op.sample.getD x.cfg.sample, depth := clamp 2 8 op.depth x.cfg.depth
            raiseLimit := clamp 2 15 op.raiseLimit x.cfg.raiseLimit
            axleTwinMin := clamp 2 9 op.axleTwinMin x.cfg.axleTwinMin
            parkAfter := clamp 1 60 op.parkAfter x.cfg.parkAfter
            pedestalLimit := clamp 30 600 op.pedestalLimit x.cfg.pedestalLimit
            holdLimit := clamp 30 900 op.holdLimit x.cfg.holdLimit
            clearLimit := clamp 10 120 op.clearLimit x.cfg.clearLimit
            linkRate := op.linkRate.getD x.cfg.linkRate } }
        ∧ (op.linkRate.getD x.cfg.linkRate = x.cfg.linkRate → (t.lane l).link = x.link)
        ∧ (op.linkRate.getD x.cfg.linkRate ≠ x.cfg.linkRate → (t.lane l).link = { x.link with
            online := false, rx := .hunt, assembly := [], rxBuf := none, txQueue := [], tx := none
            lastReport := (((x.link.tx.toList.map (·.msg)) ++ x.link.txQueue).flatMap
              (·.report .droppedOffline)).getLast?.or x.link.lastReport }))))
  ∧ (∀ (s : State) (tag : Byte) (k : Nat), s.portReady →
    let run := exec (.laneOpen tag k) s
    let answer := fun st : Status => run = .next (s.respond tag st [])
    (¬ (1 ≤ k ∧ k ≤ 12) → answer .badValue)
    ∧ ∀ l : LaneId, k = l.val + 1 →
      let x := s.lane l
      (s.strap ≤ l.val → answer .outOfRange)
      ∧ (l.val < s.strap → s.tb.clock = .unset → answer .clockUnset)
      ∧ (l.val < s.strap → s.tb.clock ≠ .unset → x.state ≠ .closed ∨ x.output ≠ .withdrawn → answer .wrongState)
      ∧ (l.val < s.strap → s.tb.clock ≠ .unset → x.state = .closed → x.output = .withdrawn →
        ∃ t, run = .next t ∧ Answered s t tag .ok [] ∧ RecordSide s t ∧ t.be = s.be ∧ t.yd = s.yd
        ∧ (∀ j, j ≠ l → t.lane j = s.lane j)
        ∧ (s.stop.inForce = false → x.closing = false → x.memApproach = false → x.memStop = false →
            t.vt = s.vt ∧ t.td = s.td
            ∧ t.lane l = { x.cleared with
                state := .idle, parkRef := some (s.tb.minute.getD 0), axleCount := 0, axleOpen := false
                link := (t.lane l).link }
            ∧ (x.link.online = true → x.link.cts = false →
                (t.lane l).link.txQueue = [.resetKiosk] ∧ (t.lane l).link.tx = x.link.tx))
        ∧ (s.stop.inForce = true → t.vt = s.vt ∧ t.td = s.td ∧ t.lane l = { x.cleared with
            state := .fault .stopped, parkRef := none, timers := x.timers.map Timer.suspend
            remembered := some { state := .idle, levels := x.filters.map (·.level), boomCount := x.boomCount } })))

/-- 7.2: LANE_CLOSE. Without FORCE a lane in IDLE, PARKED, IDENTIFY without a visit, or FAULT STOPPED with IDLE or
PARKED remembered is CLOSED at once; any other open lane is marked CLOSING. With FORCE every open lane is CLOSED: its
output withdrawn, a bound visit ending by turn-back: its DIRECTED moves are CANCELLED and their credits returned, a
stop direction is cleared with them (9.3), it leaves the yard wait list, and the command then waits for its bookings
step; the visit stays bound until that is done. That the lane is CLOSED at once, before the bookings step, is the
model's choice (notes/assumptions/13.md), as is its axle count of 0 (notes/assumptions/47.md) and the closing of a
lane in IDENTIFY without a visit that is marked CLOSING already (notes/assumptions/65.md). A CLOSED lane answers OK.
-/
def Obligations.LaneCloseCloses : Prop :=
  ∀ (s : State) (tag : Byte) (k : Nat), s.portReady →
    (¬ (1 ≤ k ∧ k ≤ 12) → exec (.laneClose tag k) s = .next (s.respond tag .badValue [])
      ∧ exec (.laneCloseForce tag k) s = .next (s.respond tag .badValue []))
    ∧ ∀ l : LaneId, k = l.val + 1 →
      let x := s.lane l
      let parked := fun st : LaneState => decide (st = .idle ∨ st = .parked)
      let atOnce := parked x.state || decide (x.state = .identify ∧ x.visit = none)
        || (decide (x.state = .fault .stopped) && x.remembered.any fun r => parked r.state)
      let marked := s.lanes.set l ({ x with closing := true } : Lane)
      (s.strap ≤ l.val → exec (.laneClose tag k) s = .next (s.respond tag .outOfRange [])
        ∧ exec (.laneCloseForce tag k) s = .next (s.respond tag .outOfRange []))
      ∧ (l.val < s.strap → x.state = .closed → exec (.laneClose tag k) s = .next (s.respond tag .ok [])
        ∧ exec (.laneCloseForce tag k) s = .next (s.respond tag .ok []))
      ∧ (l.val < s.strap → x.state ≠ .closed → atOnce = false →
          exec (.laneClose tag k) s = .next (State.respond { s with lanes := marked } tag .ok []))
      ∧ (l.val < s.strap → atOnce = true → ∃ t, exec (.laneClose tag k) s = .next t ∧ Answered s t tag .ok []
          ∧ RecordSide s t ∧ t.be = s.be ∧ t.yd = s.yd ∧ t.td = s.td ∧ (∀ j, j ≠ l → t.lane j = s.lane j)
          ∧ t.lane l = { x.shut with link := (t.lane l).link } ∧ (t.lane l).link.rxBuf = none
          ∧ t.vt = { s.vt with slotWait := if x.state = .identify then s.vt.slotWait.filter fun j => decide (j ≠ l)
              else s.vt.slotWait })
      ∧ (l.val < s.strap → x.state ≠ .closed → ∃ t, exec (.laneCloseForce tag k) s = .next t
          ∧ RecordSide s t ∧ t.be = s.be ∧ l ∉ t.vt.slotWait ∧ l ∉ t.td.blocked
          ∧ (t.lane l).state = .closed ∧ (t.lane l).visit = x.visit ∧ (t.lane l).output = x.output.withdraw (x.reads .boom)
          ∧ (t.lane l).owed = x.owed ∧ (t.lane l).cfg = x.cfg
          ∧ (x.visit.bind s.writable? = none → Answered s t tag .ok [] ∧ t.yd = s.yd ∧ ∀ j, j ≠ l → t.lane j = s.lane j)
          ∧ ∀ n, x.visit = some n → ∀ v, s.writable? n = some v → InPhase s t tag (.ending n .turnBack)
            ∧ (let named := v.moves.any fun m => decide (m.state = .directed) && m.block.isSome
              (t.visit? n).any (fun w => decide (w.ending = some .turnBack
                ∧ w.moves = (v.moves.map fun m =>
                    if m.state = .directed then { m with state := .cancelled, block := none } else m)
                ∧ w.direction = match v.direction with
                    | some (.stops q) => if named = true ∧ v.stage ≠ .released then none else some (.stops q)
                    | q => q)) = true)
            ∧ t.yd.waitList.all (fun e => decide (e.visit ≠ n)) = true
            ∧ ∀ b : BlockId, (s.yd.waitList.all fun e => decide (e.visit = n)) = true → s.yd.blocks[b].credit ≤ 255 →
                let gone := v.moves.countP fun m => decide (m.state = .directed ∧ m.block = some b)
                t.yd.blocks[b] = { s.yd.blocks[b] with
                  credit := min 255 (s.yd.blocks[b].credit + gone), inTransit := s.yd.blocks[b].inTransit - gone })

/-- 7.11, 5.6: LANE_RECOVER. WRONG_STATE outside FAULT, while a stop-all is in force for STOPPED, and where the loops
or the output are not clear. Else a STOPPED lane is resumed; where no level has changed, nothing was kept and its state
calls for no further action, it goes on as it was, its timers running again, and from HELD with an emptied hold list it
asks for a direction. A BOOM_JAM with a visit goes HELD, on a YARD send-off with a hold or without a send-off, or
begins its send-off anew, a YARD one on an OFFLINE link going HELD with LINK_DOWN instead, and a BACK one raising at
once, or in RELEASING at once with the arm up; a fault without a visit goes IDLE. The timers a fault stops
(notes/assumptions/16.md), the order of a resumption's steps and its parking reference (notes/assumptions/22.md), a
PARKED lane's wake arming and no new LANE_FAULT at a resumption (notes/assumptions/40.md), a TROUBLE send-off begun
anew whatever its hold list (notes/assumptions/12.md), a YARD one with no hold begun anew in DIRECTED with its ticket
AWAITED also where the visit has no direction (notes/assumptions/59.md), HELD without a send-off
(notes/assumptions/27.md) and the visit of a BACK send-off bound until its bookings step (notes/assumptions/13.md) are
the model's choices. -/
def Obligations.LaneRecoverRecovers : Prop :=
  ∀ (s : State) (tag : Byte) (k : Nat), s.portReady →
    let run := exec (.laneRecover tag k) s
    let answer := fun st : Status => run = .next (s.respond tag st [])
    (¬ (1 ≤ k ∧ k ≤ 12) → answer .badValue)
    ∧ ∀ l : LaneId, k = l.val + 1 →
      let x := s.lane l
      let clear := fun loops : List Input => loops.all (fun i => !x.reads i) && decide (x.output = .withdrawn)
      let jam := decide (x.state = .fault .boomJam) && x.visit.isSome && clear [.boom, .exit]
      let empty := decide (x.state = .fault .boomJam ∨ x.state = .fault .stalled ∨ x.state = .fault .tailgate)
        && x.visit.isNone && clear [.approach, .stop, .boom, .exit]
      let resumed := decide (x.state = .fault .stopped) && !s.stop.inForce
      (s.strap ≤ l.val → answer .outOfRange)
      ∧ (l.val < s.strap → (jam || empty || resumed) = false → answer .wrongState)
      ∧ (l.val < s.strap → (jam || empty || resumed) = true → ∃ t, run = .next t ∧ Answered s t tag .ok []
        ∧ RecordSide s t ∧ t.be = s.be
        ∧ (empty = true → x.closing = false → x.memApproach = false → x.memStop = false →
            t.vt = s.vt ∧ t.td = s.td ∧ (∀ j, j ≠ l → t.lane j = s.lane j)
            ∧ t.lane l = { x.cleared with
                state := .idle, parkRef := some (s.tb.minute.getD 0), axleCount := 0, axleOpen := false
                link := (t.lane l).link })
        ∧ (jam = true →
            let held := ((x.visit.bind s.visit?).map fun v => !v.holds.isEmpty).getD false
            (x.sendOff = none ∨ x.sendOff.any (fun o => decide (o.dest = .yard)) = true ∧ held = true →
              (t.lane l).state = .held ∧ (t.lane l).visit = x.visit ∧ (t.lane l).sendOff = none)
            ∧ ∀ o, x.sendOff = some o → ¬ (o.dest = .yard ∧ held = true) → o.dest ≠ .back → x.link.online = true →
              (t.lane l).state = .directed ∧ (t.lane l).visit = x.visit
              ∧ (t.lane l).sendOff.any (fun p => decide (p.dest = o.dest ∧ p.ticket = .awaited)) = true)
        ∧ (jam = true → ∀ o, x.sendOff = some o → o.dest = .back →
            (x.armUp = false → t.vt = s.vt ∧ t.td = s.td ∧ (∀ j, j ≠ l → t.lane j = s.lane j)
              ∧ t.lane l = { x with
                  state := .directed, output := .asserted, boomCount := 0
                  sendOff := some { dest := .back, ticket := .none, raiseOrdered := true, minute := o.minute, ticketId := 0 }
                  timers := x.timers.set 0 (.running x.cfg.raiseLimit), link := (t.lane l).link })
            ∧ (x.armUp = true → (t.lane l).state = .releasing ∧ (t.lane l).lastReleased = x.visit
              ∧ (t.lane l).visit = (x.visit.bind s.writable?).map (·.number)))
        ∧ (jam = true → ∀ o, x.sendOff = some o → o.dest = .yard → x.link.online = false →
            ∀ n, x.visit = some n → ∀ v, s.writable? n = some v → v.stage ≠ .released → v.holds = [] →
            (t.lane l).state = .held ∧ (t.lane l).visit = some n ∧ (t.lane l).sendOff = none
            ∧ (t.visit? n).any (fun w => decide (w.holds =
                [{ reason := .linkDown, source := .lane, placed := s.tb.minute.getD 0 }])) = true)
        ∧ (resumed = true → (t.lane l).remembered = none
            ∧ ∀ r, x.remembered = some r → r.levels = x.filters.map (·.level) →
              x.keptAnswers = [] → x.link.rxBuf = none →
              let bound := x.visit.bind s.writable?
              let quiet := match r.state with
                | .identify => ((x.visit.bind s.visit?).bind (·.plate)).isNone
                | .held => decide (x.request = .none) || bound.all fun v => !v.holds.isEmpty
                | .directed => x.sendOff.all fun o => !o.raiseOrdered && bound.all fun v =>
                    (decide (o.dest ≠ .yard) || v.holds.isEmpty) && (decide (o.dest ≠ .trouble) || !v.holds.isEmpty)
                | .releasing => decide (x.boomCount ≤ r.boomCount)
                | _ => true
              quiet = true →
              t.vt = s.vt ∧ t.td = s.td ∧ (∀ j, j ≠ l → t.lane j = s.lane j)
              ∧ t.lane l = { x with
                  state := r.state, remembered := none, timers := x.timers.map Timer.resume
                  parkRef := if r.state = .idle ∨ r.state = .parked then some (s.tb.minute.getD 0) else x.parkRef
                  request := if r.state = .held ∧ bound.any (·.holds.isEmpty) = true then .direction else x.request
                  link := (t.lane l).link }))

/-- 7.4: PLATE_REPORT. A plate out of form is BAD_VALUE, as is a lane number outside 1 to 12; a lane above the strap
is OUT_OF_RANGE. A lane with a visit writes the plate into it, and in IDENTIFY with no booking claimed searches it, at
once or after the request in flight; a stopped lane writes it and, in IDENTIFY, notes that something was entered, and
no more, which is the model's choice (notes/assumptions/67.md). A search that stands as the request in flight while
the lane still owes an admission or an ending is the model's choice (notes/assumptions/37.md). Without a visit the
plate is kept in APPROACH and IDENTIFY and refused WRONG_STATE elsewhere, as it is for a visit that is ending
(notes/assumptions/41.md). -/
def Obligations.PlateReportWrites : Prop :=
  ∀ (s : State) (tag : Byte) (k : Nat) (plate : Text), s.portReady →
    let run := exec (.plateReport tag k plate) s
    let answer := fun st : Status => run = .next (s.respond tag st [])
    (plateForm plate = false ∨ ¬ (1 ≤ k ∧ k ≤ 12) → answer .badValue)
    ∧ (plateForm plate = true → ∀ l : LaneId, k = l.val + 1 →
      let x := s.lane l
      let identifies := decide (x.state = .identify)
        || (decide (x.state = .fault .stopped) && x.remembered.any fun r => decide (r.state = .identify))
      (s.strap ≤ l.val → answer .outOfRange)
      ∧ (l.val < s.strap → x.visit = none → x.state = .approach ∨ x.state = .identify →
          run = .next (State.respond { s with lanes := s.lanes.set l { x with pendingPlate := some plate } } tag .ok []))
      ∧ (l.val < s.strap → x.visit = none → x.state ≠ .approach → x.state ≠ .identify → answer .wrongState)
      ∧ (∀ n, x.visit = some n → l.val < s.strap → (s.visit? n).any (·.ending.isSome) = true → answer .wrongState)
      ∧ ∀ n, x.visit = some n → l.val < s.strap → (s.visit? n).any (·.ending.isSome) = false →
        let vt := (s.writeVisit n .checks fun v => { v with plate := some plate }).vt
        let y : Lane :=
          if identifies = false ∨ s.claimedRefs n ≠ [] then x
          else if x.state ≠ .identify then { x with nothingEntered := false }
          else if x.request = .none then { x with nothingEntered := false, request := .search (.plate plate) }
          else { x with nothingEntered := false, plateToSearch := true }
        run = .next (State.respond { s with vt, lanes := s.lanes.set l y } tag .ok []))

/-- 5.6: a stop-all begins with its first source: STOP_ALL_SET, or STOP_ON accepted. STOP_ALL is flagged and every
lane not CLOSED enters FAULT STOPPED, its timers suspended, its parking reference discarded and its state, levels and
occupy count remembered; with STOP_MODE LOWER_IF_CLEAR a withdrawal is ordered. With a source already in force only
the source changes. 5.6: a stop-all ends with its last source: STOP_ALL_CLEAR, WRONG_STATE while the input is the
source, or STOP_OFF accepted. With RESTART BY_COMMAND only the source changes; with AUTO every lane in FAULT STOPPED
is resumed: one with no answer, message or change of level waiting, whose visit stands at no other lane and was last
released by none, stands again in the state it remembers with its suspended timers RUNNING, a raise that was ordered
in DIRECTED ordered anew. STOP_ON and STOP_OFF stand for an accepted change of the input, and do nothing where none
can be accepted (notes/assumptions/5.md); the lanes' order is the model's (notes/assumptions/40.md). -/
def Obligations.StopAllStopsAndEnds : Prop :=
  (∀ (s : State) (tag : Byte),
    let lower := fun x : Lane => match s.cfg.stopMode with
      | .hold => x
      | .lowerIfClear => { x with output := x.output.withdraw (x.reads .boom) }
    let stopped := fun x : Lane =>
      if x.state = .closed then x
      else if x.state = .fault .stopped then lower x
      else lower { x with
        state := .fault .stopped, timers := x.timers.map Timer.suspend, parkRef := none
        remembered := some { state := x.state, levels := x.filters.map (·.level), boomCount := x.boomCount } }
    let begun := fun (t : State) (stop : StopAll) =>
      if s.stop.inputSource = true ∨ s.stop.commandSource = true then t = { s with stop, cp := t.cp } ∧ t.cp.flags = s.cp.flags
      else t = { s with stop, lanes := t.lanes, cp := t.cp } ∧ (∀ l, t.lane l = stopped (s.lane l))
        ∧ t.cp.flags = { s.cp.flags with stopAll := true }
    (s.portReady → ∃ t, exec (.stopAllSet tag) s = .next t ∧ Answered s t tag .ok []
      ∧ begun t { s.stop with commandSource := true })
    ∧ (s.cfg.stopInput ≠ .off → s.stop.filter.level = false → ∃ t, exec .stopOn s = .next t
      ∧ t.cp.responses = s.cp.responses ∧ t.cp.inProgress = s.cp.inProgress
      ∧ begun t { s.stop with inputSource := true, filter := { level := true, run := 0 } })
    ∧ (s.cfg.stopInput = .off ∨ s.stop.filter.level = true → exec .stopOn s = .next s))
  ∧ (∀ (s : State) (tag : Byte),
    let alone := fun l => s.standingsOk ∧ ∀ k n, k ≠ l → (s.lane l).visit = some n → (s.lane k).lastReleased ≠ some n
    let ended := fun (t : State) (stop : StopAll) =>
      t.tb = s.tb ∧ t.cfg = s.cfg ∧ t.strap = s.strap ∧ t.be = s.be ∧ t.stop = stop ∧ t.pending = s.pending
      ∧ (s.cfg.restart = .byCommand ∨ stop.inForce = true ∨ s.stop.inForce = false →
          t = { s with stop, cp := t.cp } ∧ t.cp.flags = s.cp.flags)
      ∧ (s.cfg.restart = .auto → stop.inForce = false → s.stop.inForce = true → ∀ l,
          let x := s.lane l
          x.state = .fault .stopped → (t.lane l).remembered = none
          ∧ ∀ r, x.remembered = some r → r.levels = x.filters.map (·.level) → x.keptAnswers = [] → x.link.rxBuf = none →
            l ∉ s.td.blocked →
            (x.visit = none → r.state ≠ .directed → (r.state = .releasing → x.boomCount ≤ r.boomCount) →
              t.lane l = { x with
                state := r.state, remembered := none, timers := x.timers.map Timer.resume
                parkRef := if r.state = .idle ∨ r.state = .parked then some (s.tb.minute.getD 0) else x.parkRef
                link := (t.lane l).link })
            ∧ (alone l → r.state = .identify ∨ r.state = .checking ∨ r.state = .held → (t.lane l).state = r.state
                ∧ (t.lane l).visit = x.visit ∧ (t.lane l).timers = x.timers.map Timer.resume)
            ∧ (alone l → r.state = .directed → s.yd.waitList = [] → x.armUp = false → ∀ o, x.sendOff = some o →
                ∀ n, x.visit = some n → ∀ v, s.writable? n = some v →
                (o.dest = .yard → v.holds = []) → (o.dest = .trouble → v.holds ≠ []) →
                (t.lane l).state = .directed ∧ (t.lane l).visit = some n
                ∧ (t.lane l).timers = (if o.raiseOrdered then
                    (x.timers.map Timer.resume).set 0 (.running x.cfg.raiseLimit) else x.timers.map Timer.resume)))
    (s.portReady → s.stop.inputSource = true → exec (.stopAllClear tag) s = .next (s.respond tag .wrongState []))
    ∧ (s.portReady → s.stop.inputSource = false → ∃ t, exec (.stopAllClear tag) s = .next t ∧ Answered s t tag .ok []
      ∧ ended t { s.stop with commandSource := false })
    ∧ (s.cfg.stopInput ≠ .off → s.stop.filter.level = true → ∃ t, exec .stopOff s = .next t
      ∧ t.cp.responses = s.cp.responses ∧ t.cp.inProgress = s.cp.inProgress
      ∧ ended t { s.stop with inputSource := false, filter := { level := false, run := 0 } })
    ∧ (s.cfg.stopInput = .off ∨ s.stop.filter.level = false → exec .stopOff s = .next s))

/-! ### Seals and damage -/

/-- 8.1, 8.2: which list a read joins, and which verdict a drop is given, spelled out. A read goes to the drop in the
slot named if that declares its number; else to each drop that does; else to the sealed drop in the slot named,
leaving the stray list if it stood there; else, no slot named, to the one drop of the visit if that is sealed; else to
the stray list. A list that has the number, a read list of four and a stray list of two are left as they are, and with
nothing taken the read is a repeat or discarded. A drop that closes, and a CLOSED one judged again, is UNREAD with no
read, MISSING with a declared seal unread, FOREIGN with a read it does not declare or a stray read, else MATCH. The
phase of a stray read is an inference (notes/assumptions/14.md). -/
def Obligations.SealReadsAndVerdicts : Prop :=
  ∀ (v : Visit) (num : Text) (src : ReadSource) (slot : Option Nat),
    let drops := (List.range v.moves.length).filter fun i => v.moves[i]?.any fun m =>
      decide (m.kind = .exportDrop ∨ m.kind = .emptyReturn)
    let sealOf := fun i : Nat => v.moves[i]?.bind (·.sealRec)
    let declares := fun i : Nat => (sealOf i).any fun r => r.declared.contains num
    let isSealed := fun i : Nat => (sealOf i).isSome
    let named := match slot with
      | some (k + 1) => drops[k]?
      | _ => none
    let goes : Option (List Nat) :=
      if named.any declares then some named.toList
      else if drops.any declares then some (drops.filter declares)
      else if named.any isSealed then some named.toList
      else if slot = none ∧ drops.length = 1 ∧ drops.all isSealed then some drops
      else none
    let leaves := !drops.any declares && named.any isSealed
    let has := fun l : List SealRead => l.any fun r => decide (r.num = num)
    let full := fun r : SealRecord => has r.reads || decide (4 ≤ r.reads.length)
    let phase := fun r : SealRecord => if v.stage = .released then ReadPhase.afterRelease else match r.window with
      | .notOpened => .preWindow
      | .opened => .inWindow
      | .closed => .late
    let seals := v.moves.filterMap (·.sealRec)
    let some? := fun w : WindowState => seals.any fun r => decide (r.window = w)
    let strayPhase := if v.stage = .released then ReadPhase.afterRelease
      else if some? .opened then .inWindow
      else if some? .notOpened then .preWindow
      else .late
    let joined := fun r : SealRecord =>
      if full r then r else { r with reads := r.reads ++ [{ num, source := src, phase := phase r }] }
    let after := (v.takeRead num src slot).1
    let fate := (v.takeRead num src slot).2
    let verdict := fun r : SealRecord =>
      if r.reads = [] then Verdict.unread
      else if r.declared.any fun d => r.reads.all fun x => decide (x.num ≠ d) then .missing
      else if (r.reads.any fun x => decide (x.num ∉ r.declared)) || decide (v.stray ≠ []) then .foreign
      else .matched
    let judged := fun (p : SealRecord → Bool) => { v with moves := v.moves.map fun m => { m with
      sealRec := m.sealRec.map fun r => if p r then { r with window := .closed, verdict := some (verdict r) } else r } }
    (∀ l, goes = some l → after = { v with
        moves := v.moves.mapIdx fun i m => if i ∈ l then { m with sealRec := m.sealRec.map joined } else m
        stray := if leaves && l.any (fun i => (sealOf i).any fun r => !full r)
          then v.stray.filter fun x => decide (x.num ≠ num) else v.stray })
    ∧ (goes = none → after = { v with stray := if has v.stray || decide (2 ≤ v.stray.length) then v.stray
        else v.stray ++ [{ num, source := src, phase := strayPhase }] })
    ∧ (fate = .again ∨ fate = .discarded ↔ after = v)
    ∧ (∀ w, v.closeDrops w = judged fun r => decide (r.window = w))
    ∧ v.rejudge = judged (fun r => decide (r.window = .closed))
    ∧ (v.anyWrong = true ↔ ∃ r ∈ seals, r.window = .closed ∧ r.verdict ≠ some .matched)
    ∧ (v.mayCloseEarly = true ↔ v.stray = [] ∧ (∃ r ∈ seals, r.window = .opened)
      ∧ ∀ r ∈ seals, r.window = .opened → ∀ d ∈ r.declared, ∃ x ∈ r.reads, x.num = d)
    ∧ v.strikeRead num = { v with
        moves := v.moves.map fun m => { m with
          sealRec := m.sealRec.map fun r => { r with reads := r.reads.filter fun x => decide (x.num ≠ num) } }
        stray := v.stray.filter fun x => decide (x.num ≠ num) }

/-- 8.1, 8.2: SEAL_REPORT and its VOID form. A number or slot out of form is BAD_VALUE, an unknown visit NOT_FOUND, an
ending one or one with no drop WRONG_STATE, as is VOID on a released one; VOID of a number not read is NOT_FOUND. A
repeat and a discarded read change nothing. Else the read lists and the stray list change, CLOSED drops are judged
again, OPEN drops close where every declared seal is read, after a VOID only if it emptied the stray list, and hold
SEAL is placed for a wrong verdict or a stray read where the list takes it, and released where a verdict became MATCH,
none is wrong, no read is stray and the hold's source is LANE. That a close whose first verdict is MATCH releases SEAL
is the model's choice (notes/assumptions/17.md). The marks of the answer are the model's (notes/assumptions/21.md), as
is the destination of a number both drops declare and one list alone takes (notes/assumptions/49.md); the destination
a VOID answers is a free value (notes/assumptions/34.md). -/
def Obligations.SealReportRecordsReads : Prop :=
  ∀ (s : State) (tag : Byte) (n : Nat) (num : Text) (slot : Option Nat) (void : Bool), s.portReady → s.visitsOk →
    let run := if void then exec (.sealReportVoid tag n num slot) s else exec (.sealReport tag n num slot) s
    let answer := fun (st : Status) (p : List Field) => run = .next (s.respond tag st p)
    let form := sealForm num && slot.all fun k => decide (k = 1 ∨ k = 2)
    (form = false → answer .badValue [])
    ∧ (form = true → s.live? n = none → answer .notFound [])
    ∧ (form = true → ∀ v, s.live? n = some v →
      let drops := v.moves.any fun m => decide (m.kind = .exportDrop ∨ m.kind = .emptyReturn)
      let refused := v.ending.isSome || !drops || (void && decide (v.stage = .released))
      let fate := (v.takeRead num .host slot).2
      let nothing := !void && decide (fate = .again ∨ fate = .discarded)
      let judged := (if void then v.strikeRead num else (v.takeRead num .host slot).1).rejudge
      let bound := decide (v.stage = .atLane) && v.lane.any fun l => decide ((s.lane l).visit = some n)
      let emptied := !void || !v.stray.isEmpty
      let after := if judged.mayCloseEarly && emptied && bound then judged.closeDrops .opened else judged
      let seals := fun u : Visit => u.moves.filterMap (·.sealRec)
      let matches? := ((seals v).zip (seals after)).any fun p =>
        decide (p.2.verdict = some .matched ∧ p.1.verdict ≠ some .matched)
      (refused = true → answer .wrongState [])
      ∧ (refused = false → void = true → v.holdsSeal num = false → answer .notFound [])
      ∧ (refused = false → nothing = true → answer .ok (.byte (fateByte fate) :: s.sealFields n .left))
      ∧ (refused = false → nothing = false → (void = true → v.holdsSeal num = true) →
        (∀ k, (s.lane k).visit = some n → v.stage = .atLane ∧ v.lane = some k) →
        ∃ t, run = .next t ∧ RecordSide s t ∧ t.be = s.be ∧ t.yd = s.yd
        ∧ (∃ e : SealEffect,
            Answered s t tag .ok (.byte (if void then Config.voidFate n num % 6 else fateByte fate) :: t.sealFields n e))
        ∧ (t.visit? n).any (fun w => decide (w.moves = after.moves ∧ w.stray = after.stray)) = true
        ∧ (v.stage ≠ .released → after.anyWrong = true ∨ (void = false ∧ fate = .stray) →
            v.holds.length < 6 ∨ v.holds.any (fun h => decide (h.reason = .badSeal ∨ h.reason = .clerk)) = true →
            (t.visit? n).any (fun w => w.holds.any fun h => decide (h.reason = .badSeal)) = true)
        ∧ (v.stage ≠ .released → after.anyWrong = false → after.stray = [] → matches? = true →
            v.holds.any (fun h => decide (h.reason = .badSeal ∧ h.source = .lane)) = true →
            (t.visit? n).any (fun w => w.holds.all fun h => decide (h.reason ≠ .badSeal)) = true)))

/-- 8.3, 8.4: DAMAGE_REPORT. One to seven findings, a slot 1 or 2, named for a visit of two drops, else BAD_VALUE; an
unknown visit or drop NOT_FOUND; an ending visit or one with no drop WRONG_STATE. Else each zone keeps its greatest
severity, 3 at most, the count rises to at most 8, and the index is the weighted sum of squares, at most 255; a raised
index at or above T_HOLD places DAMAGE before the release point, where the list takes it; one at or above T_INSPECT of
a drop directed elsewhere than to an INSPECTION block redirects the drop: it is off its block, whose credit returns,
and on an INSPECTION block with credit, a YARD send-off taking its raise back for the new ticket, or else it is
PENDING with hold NO_YARD where the list takes it. With the index not raised, only the record and the mark change, the
mark of a report that leaves the record as it was being the model's choice (notes/assumptions/46.md). 8.4:
DAMAGE_DONE. An unknown visit is NOT_FOUND, an ending one WRONG_STATE. A damage window running or suspended for the
visit is closed, and the answer is OK; closed already, OK carries a mark saying so and nothing changes. The lane then
learns that the checks are final where identification is done and every sealed drop is closed; else nothing more
changes. The marks, 0 and 1, are the model's (notes/assumptions/21.md), the codes of a report's effects
(notes/assumptions/57.md) likewise, as is a window not yet started taken for a closed one (notes/assumptions/51.md).
-/
def Obligations.DamageCommandsRecord : Prop :=
  (∀ (s : State) (tag : Byte) (n : Nat) (slot : Option Nat) (fs : List Finding), s.portReady → s.visitsOk →
    let run := exec (.damageReport tag n slot fs) s
    let answer := fun st : Status => run = .next (s.respond tag st [])
    let twin := (s.live? n).any fun v => decide (v.drops.length = 2)
    let form := decide (1 ≤ fs.length ∧ fs.length ≤ 7) && slot.all (fun k => decide (k = 1 ∨ k = 2))
      && !(twin && slot.isNone)
    (form = false → answer .badValue)
    ∧ (form = true → s.live? n = none → answer .notFound)
    ∧ (form = true → ∀ v, s.live? n = some v →
      let drop := v.drops[slot.getD 1 - 1]?
      (v.ending.isSome = true ∨ v.drops = [] → answer .wrongState)
      ∧ (v.ending = none → v.drops ≠ [] → drop = none → answer .notFound)
      ∧ (v.ending = none → ∀ i, drop = some i → ∀ d, (v.moves[i]?).bind (·.damage) = some d →
        ∃ t, run = .next t ∧ RecordSide s t ∧ t.be = s.be
        ∧ ∃ e, ((t.visit? n).bind fun w => (w.moves[i]?).bind (·.damage)) = some e
          ∧ (∀ z : Fin 7, e.severity[z] = fs.foldl
              (fun m f => if zoneIdx f.zone = z then max m (min 3 f.severity) else m) d.severity[z])
          ∧ e.count = fs.foldl (fun c _ => min 8 (c + 1)) d.count
          ∧ e.index = min 255 ((e.severity.zipWith (fun g w => w * g * g) s.cfg.weights).toList.sum)
          ∧ e.after = (if v.stage = .released then fs.foldl (fun c _ => min 8 (c + 1)) d.after else d.after)
          ∧ (t.cp.responses.getLast?).any (fun r => decide (r.tag = tag
              ∧ r.status = (if fs.any fun f => decide (3 < f.severity) then .okClamped else .ok)
              ∧ r.payload.take 10 = e.severity.toList.map Field.byte ++ [.byte e.count, .byte d.index, .byte e.index])) = true
          ∧ t.cp.inProgress = none
          ∧ (e.index ≤ d.index → t.td = s.td ∧ t.yd = s.yd ∧ t.lanes = s.lanes
              ∧ t.vt = (s.writeVisit n (if v.stage = .released then .damageAfterRelease else .checks)
                  fun w => w.setDamage i e).vt)
          ∧ (d.index < e.index → s.cfg.tHold ≤ e.index → v.stage ≠ .released →
              v.holds.length < 6 ∨ v.holds.any (fun h => decide (h.reason = .damage ∨ h.reason = .clerk)) = true →
              (t.visit? n).any (fun w => w.holds.any fun h => decide (h.reason = .damage)) = true)
          ∧ (d.index < e.index → s.cfg.tInspect ≤ e.index →
              v.stage = .atLane ∨ v.stage = .queued ∨ v.stage = .atDesk → ∀ m, v.moves[i]? = some m → m.state = .directed →
              ∀ b : BlockId, m.block = some b → s.yd.blocks[b].kind ≠ .inspection → (∀ x ∈ v.moves, x.state ≠ .pending) →
              s.standingsOk →
              let x := s.yd.blocks[b]
              let back := s.yd.blocks.set b { x with credit := min 255 (x.credit + 1), inTransit := x.inTransit - 1 }
              let block := chooseBlock back .inspection (s.moveBooking m).2
              (t.cp.responses.getLast?).any (fun r => decide (r.payload.drop 11 = [.byte 1, .byte 0])) = true
              ∧ (∀ c, block = some c →
                  t.yd.blocks = back.set c { back[c] with
                    credit := back[c].credit - 1, inTransit := back[c].inTransit + 1 }
                  ∧ (t.visit? n).any (fun w => decide (w.moves[i]? = some { m with damage := some e, block := some c }
                      ∧ Cause.redirected ∈ w.causes)) = true
                  ∧ ∀ l, v.stage = .atLane → v.lane = some l → (s.lane l).visit = some n → (s.lane l).state = .directed →
                      (s.lane l).sendOff.any (fun o => decide (o.dest = .yard)) = true → (s.lane l).link.online = true →
                      v.holds = [] → e.index < s.cfg.tHold → (∀ k, k ≠ l → t.lane k = s.lane k)
                      ∧ (t.lane l).state = .directed ∧ (t.lane l).timer .raise = .stopped
                      ∧ (t.lane l).sendOff.any (fun o =>
                          decide (o.dest = .yard ∧ o.ticket = .awaited ∧ o.raiseOrdered = false)) = true)
              ∧ (block = none → t.yd.blocks = back
                  ∧ (t.visit? n).any (fun w => decide (w.moves[i]? = some { m with
                      damage := some e, state := .pending, block := none })
                      && !w.direction.any fun q => match q with
                        | .stops _ => true
                        | _ => false) = true
                  ∧ (v.holds.length < 5 → (t.visit? n).any (fun w =>
                      w.holds.any fun h => decide (h.reason = .noYard)) = true
                    ∧ (s.yd.waitList.length < 16 → t.yd.waitList.any (fun q => decide (q.visit = n)) = true)))))))
  ∧ (∀ (s : State) (tag : Byte) (n : Nat), s.portReady →
    let run := exec (.damageDone tag n) s
    (s.live? n = none → run = .next (s.respond tag .notFound []))
    ∧ ∀ v, s.live? n = some v →
      let window := fun l => decide (v.stage = .atLane ∧ v.lane = some l ∧ (s.lane l).visit = some n
        ∧ (s.lane l).timer .damageWindow ≠ .stopped)
      (v.ending.isSome = true → run = .next (s.respond tag .wrongState []))
      ∧ (v.ending = none → (∀ l, window l = false) → run = .next (s.respond tag .ok [.byte 1]))
      ∧ ∀ l, window l = true → v.ending = none →
        let final := (s.lane l).identTold && !(s.lane l).finalTold
          && (v.moves.filterMap (·.sealRec)).all fun r => decide (r.window = .closed)
        let stop := (s.lane l).timers.set 5 .stopped
        ∃ t, run = .next t ∧ Answered s t tag .ok [.byte 0]
        ∧ t = { s with lanes := t.lanes, cp := t.cp } ∧ t.cp.flags = s.cp.flags ∧ (∀ k, k ≠ l → t.lane k = s.lane k)
        ∧ (final = false → t.lane l = { s.lane l with timers := stop })
        ∧ (final = true → (s.lane l).state = .checking → v.holds = [] →
            t.lane l = { s.lane l with timers := stop, finalTold := true, request := .direction })
        ∧ (final = true → (s.lane l).state = .checking → v.holds ≠ [] →
            (t.lane l).state = .held ∧ (t.lane l).timer .damageWindow = .stopped ∧ (t.lane l).finalTold = true))

/-! ### The yard -/

/-- R175: the preferred block where it qualifies, else the qualifying block of greatest credit, the lowest number
among equals, else none. In an assignment each choice is made against the credits as the moves chosen before it left
them. -/
def Obligations.BlockChoiceByCredit : Prop :=
  ∀ (blocks : Vector Block 32) (k : BlockKind) (preferred : Option Nat),
    let fits := fun b : BlockId => blocks[b].opened = true ∧ blocks[b].kind = k ∧ 0 < blocks[b].credit
    (∀ b : BlockId, preferred = some b.val → fits b → chooseBlock blocks k preferred = some b)
    ∧ ((∀ b : BlockId, preferred = some b.val → ¬ fits b) →
      (∀ b, chooseBlock blocks k preferred = some b ↔ fits b ∧ ∀ c, fits c →
        blocks[c].credit < blocks[b].credit ∨ (blocks[c].credit = blocks[b].credit ∧ b ≤ c))
      ∧ (chooseBlock blocks k preferred = none ↔ ∀ b, ¬ fits b))
    ∧ ∀ (s : State) (i : Nat) (rest : List Nat) (ms : List MoveEntry) (m : MoveEntry), ms[i]? = some m →
      m.state = .pending → k = neededKind s.cfg.tInspect (s.moveBooking m).1 m → preferred = (s.moveBooking m).2 →
      (∀ b : BlockId, chooseBlock blocks k preferred = some b →
        let x := blocks[b]
        s.assignMoves (i :: rest) blocks ms = s.assignMoves rest
          (blocks.set b { x with credit := x.credit - 1, inTransit := x.inTransit + 1 })
          (ms.set i { m with state := .directed, block := some b }))
      ∧ (chooseBlock blocks k preferred = none → s.assignMoves (i :: rest) blocks ms = .error (i, k))

/-- 9.3: a stop direction, spelled out. The stops stand in the order in which the moves, drops before picks, first
name their blocks, one for each block, with its label and route and all the moves sent there in that order; every
DIRECTED move is served at one stop. A successful assignment writes the direction so composed, but on a lane in
DIRECTED on a TROUBLE send-off, where the one held is kept, and every other field of the record by its own rule; what
is kept through a stop-all is an inference (notes/assumptions/43.md). -/
def Obligations.StopsComposeDirection : Prop :=
  (∀ (blocks : Vector Block 32) (ms : List MoveEntry),
    let drop := fun m : MoveEntry => decide (m.kind = .exportDrop ∨ m.kind = .emptyReturn)
    let ordered := ms.filter drop ++ ms.filter fun m => !drop m
    let stops := composeStops blocks ms
    stops = ((ordered.filterMap (·.block)).eraseDups).map (fun b =>
      { block := b, label := blocks[b].label, route := blocks[b].route
        moves := (ordered.filter fun m => decide (m.block = some b)).map fun m => (m.kind, m.container) })
    ∧ (stops.map (·.block)).Nodup ∧ (stops.map (·.moves.length)).sum = ms.countP fun m => m.block.isSome)
  ∧ ∀ (s : State) (v : Visit) (blocks : Vector Block 32) (ms : List MoveEntry) (c : Cause), s.visitsOk →
      s.writable? v.number = some v → v.holds.all (fun h => decide (h.reason ≠ .noYard)) = true →
      let kept := decide (v.stage = .atLane) && v.lane.any fun l =>
        let x := s.lane l
        (decide (x.state = .directed) || (decide (x.state = .fault .stopped)
            && x.remembered.any fun r => decide (r.state = .directed)))
          && x.sendOff.any fun o => decide (o.dest = .trouble)
      (s.assignDone v blocks ms c).visit? v.number = some { v with
        moves := ms, causes := insertCause c v.causes
        direction := if kept then v.direction else some (.stops (composeStops blocks ms)) }

/-- 9.5: BLOCK_SET. A block number above 31, a route above 255 and a label out of form are BAD_VALUE; a change of kind
while moves are on their way to the block is WRONG_STATE. Else the fields given are written together, the credit
clamped to 255, and no other block's kind, state, route or label changes. With no closure and no credit appearing on
an open block nothing else changes. A closure leaves no visit before its release point a move directed to the block,
and marks each released visit with one BLOCK_CLOSED_EN_ROUTE, its moves standing. Where credit appears on an open
block the wait list is walked from its head: each visit all whose PENDING moves find a block, in the credits those
before it left, is DIRECTED, leaves the list and loses NO_YARD; every other keeps its moves and its place. The answer
carries the block as written, and counts as held only visits that hold NO_YARD; its bytes, open 0 and closed 1 among
them, and its counts are the model's (notes/assumptions/26.md). -/
def Obligations.BlockSetWritesBlock : Prop :=
  ∀ (s : State) (tag : Byte) (k : Nat) (op : BlockSetOp), s.portReady → s.visitsOk →
    let run := exec (.blockSet tag k op) s
    let answer := fun st : Status => run = .next (s.respond tag st [])
    let form := op.route.all (fun n => decide (n ≤ 255)) && op.label.all labelForm
    (32 ≤ k ∨ form = false → answer .badValue)
    ∧ (form = true → ∀ b : BlockId, k = b.val →
      let old := s.yd.blocks[b]
      let new : Block :=
        { old with
          opened := op.opened.getD old.opened, kind := op.kind.getD old.kind, route := op.route.getD old.route
          label := op.label.getD old.label, credit := (op.credit.map (min 255)).getD old.credit }
      let shown := fun x : Block => (x.kind, x.opened, x.route, x.label)
      let appears := new.opened && (!old.opened || decide (old.credit < new.credit)
        || (decide (new.kind ≠ old.kind) && decide (0 < new.credit)))
      let st := if op.credit.any fun n => decide (255 < n) then Status.okClamped else .ok
      (new.kind ≠ old.kind → 0 < old.inTransit → answer .wrongState)
      ∧ (new.kind = old.kind ∨ old.inTransit = 0 →
        (appears = false → ¬ (old.opened = true ∧ new.opened = false) → run =
          .next (State.respond { s with yd := { s.yd with blocks := s.yd.blocks.set b new } } tag st
            [.byte (blockKindByte new.kind), .byte (if new.opened then 0 else 1), .byte new.credit, .byte new.inTransit
              , .byte new.route, .chars new.label, .byte 0, .byte 0, .byte 0, .byte 0]))
        ∧ ∃ t, run = .next t ∧ RecordSide s t ∧ t.be = s.be
          ∧ (∃ r, t.cp.responses.getLast? = some r ∧ r.status = st ∧ Answered s t tag st r.payload
            ∧ r.payload.take 6 = [.byte (blockKindByte new.kind), .byte (if new.opened then 0 else 1), .byte new.credit
              , .byte new.inTransit, .byte new.route, .chars new.label]
            ∧ ∃ h, r.payload[7]? = some (.byte h)
              ∧ (appears = false → h ≤ t.vt.visits.countP fun w => w.holds.any fun q => decide (q.reason = .noYard)))
          ∧ (∀ c : BlockId, shown t.yd.blocks[c] = if c = b then shown new else shown s.yd.blocks[c])
          ∧ (s.standingsOk → old.opened = true → new.opened = false → ∀ w ∈ t.vt.visits, w.ending = none → w.stage ≠ .released →
              w.stage ≠ .closed → ∀ m ∈ w.moves, m.state = .directed → m.block ≠ some b)
          ∧ (s.standingsOk → old.opened = true → new.opened = false → ∀ w ∈ s.vt.visits, w.ending = none → w.stage = .released →
              w.moves.any (fun m => decide (m.state = .directed ∧ m.block = some b)) = true →
              t.visit? w.number = some { w with causes := insertCause .blockClosedEnRoute w.causes }
              ∧ w.number ∈ t.vt.changed)
          ∧ (appears = true → s.waitOk →
              let shape := fun ms : List MoveEntry => ms.map fun m => (m.state, m.block)
              let walk := s.yd.waitList.foldl
                (fun (acc : Vector Block 32 × List (Nat × List (MoveState × Option BlockId))) e =>
                  match s.writable? e.visit with
                  | some v =>
                    if v.stage = .atLane ∨ v.stage = .queued ∨ v.stage = .atDesk then
                      match s.assignMoves (directionOrder v.moves) acc.1 v.moves with
                      | .ok (blocks, ms) => (blocks, acc.2 ++ [(e.visit, shape ms)])
                      | .error _ => acc
                    else acc
                  | none => acc)
                (s.yd.blocks.set b new, [])
              let found := fun n => walk.2.find? fun q => decide (q.1 = n)
              t.yd.blocks = walk.1
              ∧ t.yd.waitList.map (·.visit) = (s.yd.waitList.map (·.visit)).filter (fun n => (found n).isNone)
              ∧ ∀ e ∈ s.yd.waitList, ∀ v, s.visit? e.visit = some v → (t.visit? e.visit).any (fun w =>
                  match found e.visit with
                  | some q => decide (shape w.moves = q.2) && w.holds.all fun h => decide (h.reason ≠ .noYard)
                  | none => decide (shape w.moves = shape v.moves)) = true)))

/-- 9.6: BLOCK_CONFIRM. A position outside 1 to 4 is BAD_VALUE; an unknown visit or move NOT_FOUND; a visit not
released or ending, or a move not DIRECTED, WRONG_STATE. Else the move is DONE and keeps its block, whose in_transit
falls, and the answer carries the block and the count of moves still DIRECTED. Nothing else changes. -/
def Obligations.BlockConfirmSettlesMove : Prop :=
  ∀ (s : State) (tag : Byte) (n p : Nat), s.portReady → s.visitsOk →
    let run := exec (.blockConfirm tag n p) s
    let answer := fun st : Status => run = .next (s.respond tag st [])
    (¬ (1 ≤ p ∧ p ≤ 4) → answer .badValue)
    ∧ (1 ≤ p ∧ p ≤ 4 → (s.live? n = none → answer .notFound)
      ∧ ∀ v, s.live? n = some v →
        (v.ending.isSome = true ∨ v.stage ≠ .released → answer .wrongState)
        ∧ (v.ending = none → v.stage = .released → (v.moves[p - 1]? = none → answer .notFound)
          ∧ ∀ m, v.moves[p - 1]? = some m →
            (¬ (m.state = .directed ∧ m.block.isSome = true) → answer .wrongState)
            ∧ ∀ b, m.block = some b → m.state = .directed →
              let block := s.yd.blocks[b]
              let moves := v.moves.set (p - 1) { m with state := .done }
              let vt := ((s.modVisit n fun w => { w with moves }).mark n .direction).vt
              let blocks := s.yd.blocks.set b { block with inTransit := block.inTransit - 1 }
              run = .next (State.respond { s with vt, yd := { s.yd with blocks } } tag .ok
                [.byte b.val, .byte (moves.countP fun x => decide (x.state = .directed))])))

/-- 4.4: VISIT_CLOSE. An unknown visit is NOT_FOUND, one not RELEASED or already ending WRONG_STATE. Else the command
completes its first part: the visit is ending, its DIRECTED moves are CANCELLED, each block's in_transit falls with no
credit returned, it leaves the yard wait list, a move cancelled marks it with cause DIRECTION, the model's choice
(notes/assumptions/17.md), and the command holds the port until its bookings step. Nothing else changes. 7.5, 7.8,
7.9, 9.3, 9.4: ASSIGNMENT takes the direction request of a lane. With none in flight nothing happens, the model's
choice (notes/assumptions/8.md). For a visit at the lane with a PENDING move for each of which a block is found the
moves become DIRECTED on the blocks so written, the visit leaves the wait list, and a lane that finds no hold begins a
YARD send-off, giving up a grant kept or a blocked place, or, OFFLINE, enters HELD with LINK_DOWN and its HOLD_LIMIT
anew, from HELD too (notes/assumptions/27.md). With no block for a move no block changes, hold NO_YARD stands where
the list takes it, and the lane stays or goes HELD; with no move at all CLERK stands where the list takes it, and the
lane stays or goes HELD. A lane already HELD stands as it was, its HOLD_LIMIT running on (notes/assumptions/27.md), or
with a grant kept begins its TROUBLE send-off. -/
def Obligations.VisitMovesEndAndBegin : Prop :=
  (∀ (s : State) (tag : Byte) (n : Nat), s.portReady → s.visitsOk →
    (s.live? n = none → exec (.visitClose tag n) s = .next (s.respond tag .notFound []))
    ∧ ∀ v, s.live? n = some v →
      (v.stage ≠ .released ∨ v.ending.isSome = true → exec (.visitClose tag n) s = .next (s.respond tag .wrongState []))
      ∧ (v.stage = .released → v.ending = none →
        let gone := fun b : BlockId => v.moves.countP fun m => decide (m.state = .directed ∧ m.block = some b)
        let named := v.moves.any fun m => decide (m.state = .directed) && m.block.isSome
        let cancel := fun m : MoveEntry =>
          if m.state = .directed then { m with state := .cancelled, block := none } else m
        let ended : Visit := { v with
          ending := some .close, moves := v.moves.map cancel
          causes := if named then insertCause .direction v.causes else v.causes }
        ∃ t, exec (.visitClose tag n) s = .next t ∧ InPhase s t tag (.ending n .close)
        ∧ t = { s with vt := t.vt, yd := t.yd, cp := t.cp } ∧ t.cp.flags = s.cp.flags
        ∧ t.vt = { s.vt with
            visits := s.vt.visits.map fun w => if w.number = n then ended else w
            changed := if named = true ∧ n ∉ s.vt.changed then s.vt.changed ++ [n] else s.vt.changed }
        ∧ (∀ b : BlockId, t.yd.blocks[b] = { s.yd.blocks[b] with inTransit := s.yd.blocks[b].inTransit - gone b })
        ∧ t.yd.waitList = s.yd.waitList.filter (fun e => decide (e.visit ≠ n))))
  ∧ ∀ (s : State) (l : LaneId),
    ((s.lane l).request ≠ .direction → exec (.assignment l) s = .next s)
    ∧ ((s.lane l).request = .direction → (s.lane l).visit = none →
      let x := { s.lane l with request := .none }
      exec (.assignment l) s = .next { s with lanes := s.lanes.set l x })
    ∧ ∀ n, (s.lane l).visit = some n → ∀ v, s.writable? n = some v → (s.lane l).request = .direction →
      v.stage = .atLane → v.lane = some l → s.visitsOk → s.lanesOk →
      (∀ k, (s.lane k).visit = some n → k = l) →
      let x := s.lane l
      let has := fun (u : Visit) (q : HoldReason) => u.holds.any fun h => decide (h.reason = q)
      let room := fun q => decide (v.holds.length < 6) || has v q || has v .clerk
      let shape := fun ms : List MoveEntry => ms.map fun m => (m.state, m.block)
      let found := decide (v.moves ≠ []) && match s.tryAssign v with
        | .ok _ => true
        | .error _ => false
      ∃ t, exec (.assignment l) s = .next t ∧ RecordSide s t ∧ t.be = s.be
      ∧ t.cp.inProgress = s.cp.inProgress ∧ t.cp.responses = s.cp.responses ∧ (t.lane l).request = .none
      ∧ (v.moves = [] → t.yd = s.yd
          ∧ (t.visit? n).any (fun w => decide (w.moves = []) && (!room .clerk || has w .clerk)) = true)
      ∧ (v.moves ≠ [] → match s.tryAssign v with
        | .ok (blocks, ms) => t.yd.blocks = blocks
            ∧ (t.visit? n).any (fun w => decide (shape w.moves = shape ms)) = true
            ∧ t.yd.waitList.all (fun e => decide (e.visit ≠ n)) = true
            ∧ (x.state = .checking → (t.visit? n).any (fun w =>
                decide (w.moves = ms ∧ w.direction = some (.stops (composeStops blocks ms)))) = true)
        | .error (_, kind) => t.yd.blocks = s.yd.blocks
            ∧ (t.visit? n).any (fun w => decide (shape w.moves = shape v.moves)
              && (!room .noYard || has w .noYard)) = true
            ∧ (room .noYard = true → s.yd.waitList.length < 16 →
                t.yd.waitList.contains { visit := n, kind } = true))
      ∧ (found = true → v.holds = [] → x.link.online = true →
          x.state = .checking ∧ x.trouble = .none
            ∨ x.state = .held ∧ x.keptEvents = [] ∧ (x.trouble = .admitted → l ∉ s.td.blocked) →
          (t.lane l).state = .directed ∧ (t.lane l).visit = some n ∧ (t.lane l).trouble = .none
          ∧ (t.lane l).sendOff.any (fun o => decide (o.dest = .yard ∧ o.ticket = .awaited)) = true)
      ∧ (found = true → v.holds = [] → x.link.online = false →
          x.state = .checking ∨ x.state = .held ∧ x.keptEvents = [] ∧ (x.trouble = .admitted → l ∉ s.td.blocked) →
          (t.lane l).state = .held ∧ (t.lane l).visit = some n ∧ (t.lane l).timer .hold = .running x.cfg.holdLimit
          ∧ (t.visit? n).any (fun w => decide (w.holds =
              [{ reason := .linkDown, source := .lane, placed := s.tb.minute.getD 0 }])) = true)
      ∧ (found = false → x.state = .checking → (t.lane l).state = .held ∧ (t.lane l).visit = some n)
      ∧ (found = false → x.state = .held → x.keptEvents = [] → x.keptGrant = false →
          t.lane l = { x with request := .none })
      ∧ (found = false → x.state = .held → x.keptEvents = [] → x.keptGrant = true → x.link.online = true →
          (t.lane l).state = .directed ∧ (t.lane l).visit = some n ∧ (t.lane l).trouble = .admitted
          ∧ (t.lane l).sendOff.any (fun o => decide (o.dest = .trouble ∧ o.ticket = .awaited)) = true)

/-! ### The trouble desk -/

/-- 10.3, 10.6: DESK_TAKE and DESK_RETURN. A desk number outside 1 to 4 is BAD_VALUE; DESK_TAKE at a SERVING desk and
DESK_RETURN at a FREE one WRONG_STATE; DESK_TAKE of an empty queue EMPTY. DESK_TAKE seats the oldest visit with
hazardous cargo, or the oldest; DESK_RETURN puts the served visit at the tail, with CLERK if it has no hold. Every
answer opens with the desk as it stands after the command, its ready mark set anew, absent where it is FREE, which is
the model's layout (notes/assumptions/20.md and 21.md), as are a position counted from 1 (notes/assumptions/56.md)
and the codes of a hold's source (notes/assumptions/57.md); nothing else changes. The slots in use are under different
numbers (4.1). -/
def Obligations.DeskTakeAndReturn : Prop :=
  ∀ (s : State) (tag : Byte) (k : Nat), s.portReady → s.visitsOk →
    let take := exec (.deskTake tag k) s
    let back := exec (.deskReturn tag k) s
    (¬ (1 ≤ k ∧ k ≤ 4) → take = .next (s.respond tag .badValue []) ∧ back = .next (s.respond tag .badValue []))
    ∧ ∀ d : DeskId, k = d.val + 1 →
      let seat := fun x : Desk => { s.td with desks := s.td.desks.set d x }
      (∀ n m r, s.td.desks[d] = .serving n m r →
        let ready := match s.visit? n with
          | some v => v.holds.isEmpty && v.complete
          | none => r
        take = .next (State.respond { s with td := seat (.serving n m ready) } tag .wrongState
          [.present, .word n, .minute m, .byte (if ready then 1 else 0)])
        ∧ ∀ v, s.writable? n = some v →
          let clerk : Hold := { reason := .clerk, source := .desk, placed := s.tb.minute.getD 0 }
          let held := if v.holds = [] ∧ v.stage ≠ .released then
            (s.modVisit n fun w => { w with holds := [clerk] }).mark n .holds else s
          let vt := ((held.modVisit n fun w => { w with stage := .queued, desk := none }).mark n .stage).vt
          let td := { seat .free with queue := s.td.queue ++ [n] }
          back = .next (State.respond { s with vt, td } tag .ok [.absent, .byte (s.td.queue.length + 1)]))
      ∧ (s.td.desks[d] = .free → back = .next (s.respond tag .wrongState [.absent])
        ∧ (s.td.queue = [] → take = .next (s.respond tag .empty [.absent]))
        ∧ let hazard := fun n => (s.claimedRefs n).any fun r => (s.booking? r).any fun b =>
            decide (b.special = .hazard ∨ b.special = .reeferHazard)
          let choice := match s.td.queue.find? hazard with
            | some n => some n
            | none => s.td.queue.head?
          ∀ n, choice = some n → ∀ v, s.writable? n = some v →
            let ready := v.holds.isEmpty && v.complete
            let vt := ((s.modVisit n fun w => { w with stage := .atDesk, desk := some d }).mark n .stage).vt
            let td := { seat (.serving n (s.tb.minute.getD 0) ready) with
              queue := s.td.queue.filter fun m => decide (m ≠ n) }
            let hold := fun h : Hold =>
              [Field.byte (reasonByte h.reason), .byte (sourceByte h.source), .minute h.placed]
            take = .next (State.respond { s with vt, td } tag .ok
              ([.present, .word n, .minute (s.tb.minute.getD 0), .byte (if ready then 1 else 0)
                , .byte v.holds.length] ++ v.holds.flatMap hold ++ [.byte (if hazard n then 1 else 0)])))

/-- 10.4: DESK_RETRY. At a FREE desk it is WRONG_STATE. With a block found for each PENDING move the moves are
DIRECTED and the answer OK with the stops; with none for a move, no block changes, hold NO_YARD stands where the list
takes it, and the answer is NO_ROOM with the kind; a visit with no move takes CLERK and the answer is WRONG_STATE
marked NO_MOVES. A stop direction is cleared where the assignment fails. The visit is marked, with cause HOLDS where
its hold list is written and DIRECTION where its direction is (notes/assumptions/17.md), and the desk's ready mark is
set anew. Nothing else changes: no other visit, no other field of this one or of the Visit Table, no lane. The desk's
place in the answer and the places of the marks are the model's (notes/assumptions/20.md and 21.md). -/
def Obligations.DeskRetryAssigns : Prop :=
  ∀ (s : State) (tag : Byte) (k : Nat), s.portReady → s.visitsOk →
    let run := exec (.deskRetry tag k) s
    (¬ (1 ≤ k ∧ k ≤ 4) → run = .next (s.respond tag .badValue []))
    ∧ ∀ d : DeskId, k = d.val + 1 →
      (s.td.desks[d] = .free → run = .next (s.respond tag .wrongState [.absent]))
      ∧ ∀ n m r, s.td.desks[d] = .serving n m r → ∀ v, s.writable? n = some v → v.stage = .atDesk → v.desk = some d →
        let has := fun q => v.holds.any fun h => decide (h.reason = q)
        let room := fun q => decide (v.holds.length < 6) || has q || has .clerk
        let desk := fun w : Visit => [Field.present, .word n, .minute m
          , .byte (if w.holds.isEmpty && w.complete then 1 else 0)]
        let seat := fun w : Visit => { s.td with desks := s.td.desks.set d (.serving n m (w.holds.isEmpty && w.complete)) }
        ∃ t, run = .next t ∧ RecordSide s t ∧ t.be = s.be ∧ t.lanes = s.lanes ∧ t.cp.flags = s.cp.flags
        ∧ t.vt = { s.vt with
            visits := t.vt.visits, changed := if n ∈ s.vt.changed then s.vt.changed else s.vt.changed ++ [n] }
        ∧ ∃ w, t.visit? n = some w ∧ t.td = seat w
        ∧ t.vt.visits = s.vt.visits.map (fun u => if u.number = n then w else u)
        ∧ w = { v with moves := w.moves, direction := w.direction, holds := w.holds, causes := w.causes }
        ∧ (let cleared := match v.direction with
            | some (.stops _) => true
            | _ => false
          let fails := match s.tryAssign v with
            | .ok _ => false
            | .error _ => true
          w.causes = (if v.moves ≠ [] ∧ fails = false then
              if has .noYard then insertCause .holds (insertCause .direction v.causes) else insertCause .direction v.causes
            else if v.moves ≠ [] ∧ cleared = true then insertCause .holds (insertCause .direction v.causes)
            else insertCause .holds v.causes)
          ∧ (v.moves = [] ∨ fails = true →
              w.direction = (if v.moves ≠ [] ∧ cleared = true then none else v.direction)
              ∧ ∀ h ∈ v.holds, h.reason ≠ .clerk → w.holds.any (fun k => decide (k.reason = h.reason)) = true))
        ∧ (v.moves = [] → t.yd = s.yd ∧ w.moves = [] ∧ Answered s t tag .wrongState (desk w ++ [.byte 1])
            ∧ (room .clerk = true → w.holds.any (fun h => decide (h.reason = .clerk)) = true))
        ∧ (∀ blocks ms, s.tryAssign v = .ok (blocks, ms) → v.moves ≠ [] → t.yd.blocks = blocks ∧ w.moves = ms
              ∧ t.yd.waitList = s.yd.waitList.filter (fun e => decide (e.visit ≠ n))
              ∧ w.direction = some (.stops (composeStops blocks ms))
              ∧ w.holds = v.holds.filter (fun h => decide (h.reason ≠ .noYard))
              ∧ Answered s t tag .ok (desk w ++ directionFields (.stops (composeStops blocks ms))))
        ∧ (∀ i kind, s.tryAssign v = .error (i, kind) → v.moves ≠ [] → t.yd.blocks = s.yd.blocks ∧ w.moves = v.moves
              ∧ (room .noYard = true → w.holds.any (fun h => decide (h.reason = .noYard)) = true)
              ∧ (room .noYard = false → t.yd = s.yd ∧ w.holds = v.holds
                  ∧ Answered s t tag .noRoom (desk w ++ [.byte (blockKindByte kind), .byte 2]))
              ∧ (room .noYard = true →
                  let known := s.yd.waitList.any fun e => decide (e.visit = n)
                  let on := known || decide (s.yd.waitList.length < 16)
                  t.yd.waitList = (if known then s.yd.waitList.map fun e => if e.visit = n then { e with kind } else e
                    else if s.yd.waitList.length < 16 then s.yd.waitList ++ [{ visit := n, kind }] else s.yd.waitList)
                  ∧ Answered s t tag .noRoom (desk w ++ [.byte (blockKindByte kind), .byte (if on then 0 else 1)])))

/-- 10.5: DESK_REBOOK, at its turn. The first failure answers it: NOT_FOUND, WRONG_STATE, NOT_FOUND, WRONG_STATE or
NO_ROOM, and nothing changes. Else the charge is moved to the pool found and NO_SLOT leaves the visit's list. An
ARRIVED booking is then judged in its new window: UNJUDGED in LOST, ON_TIME or LATE_GRACE, tallied there; an early one
moves its charge on to the running window with room, is flagged PULLED and tallied there, or with none is
EARLY_STAGED, and NO_SLOT stands with source DESK where the list takes it. LATE does not arise, since a window past
its grace is refused. That a charge the booking holds in a pool already counts as room there is an inference, and that
the answer opens with the desk the model's layout (notes/assumptions/20.md and 21.md). That a refusal for the desk
waits for the grant and counts as one is the model's choice (notes/assumptions/69.md). -/
def Obligations.DeskRebookMovesCharge : Prop :=
  ∀ (s : State) (tag : Byte) (k : Nat) (ref : Text) (start : Nat), s.portReady → s.portTurn → s.visitsOk → s.bookOk →
    let run := exec (.deskRebook tag k ref start) s
    let served := { s.be with lastClass := .port }
    (¬ (1 ≤ k ∧ k ≤ 4) → run = .next (State.respond { s with be := served } tag .badValue []))
    ∧ ∀ d : DeskId, k = d.val + 1 →
      (s.td.desks[d] = .free → run = .next (State.respond { s with be := served } tag .wrongState [.absent]))
      ∧ ∀ n m r, s.td.desks[d] = .serving n m r → ∀ v, s.writable? n = some v → v.stage = .atDesk → v.desk = some d →
        let desk := fun w : Visit => [Field.present, .word n, .minute m
          , .byte (if w.holds.isEmpty && w.complete then 1 else 0)]
        let seat := fun w : Visit => { s.td with desks := s.td.desks.set d (.serving n m (w.holds.isEmpty && w.complete)) }
        let answer := fun st : Status =>
          run = .next (State.respond { s with be := served, td := seat v } tag st (desk v))
        let named := decide (ref ∈ v.claimed.map (·.ref))
        (named = false → answer .notFound)
        ∧ (named = true → ∀ b, s.booking? ref = some b →
          (b.flags.withdrawn = true → answer .wrongState)
          ∧ (b.flags.withdrawn = false →
            (s.windowOf start = none → answer .notFound)
            ∧ ∀ w, s.windowOf start = some w →
              (s.due w = true → answer .wrongState)
              ∧ (s.due w = false →
                let present := fun p => s.holdsCharge b && decide (b.tag = w.start ∧ b.pool = p)
                let reserve := decide (b.special ≠ .plain) && (decide (w.bookedR < w.cr) || present .reserve)
                let general := decide (w.bookedG < w.cg) || present .general
                let pool := if reserve then Pool.reserve else .general
                let now := s.tb.minute.getD 0
                let offset : Int := (now : Int) - w.start
                let move := fun (ring : List Window) (b : Booking) (charged : Bool) (w : Window) (p : Pool) => ring.map fun x =>
                  let y := if x.start = w.start then x.charge p else x
                  if charged = true ∧ y.start = b.tag then y.discharge b.pool else y
                let there := fun (b : Booking) (w : Window) (p : Pool) => { b with tag := w.start, pool := p, recL := w.length }
                let ring₁ := if present pool then s.be.ring else move s.be.ring b (s.windowOf b.tag).isSome w pool
                let b₁ := if present pool then b else there b w pool
                let early := decide (s.tb.clock ≠ .lost ∧ offset < -(s.cfg.e : Int))
                let target := if early then (ring₁.find? fun x => decide (x.start ≤ now ∧ now < x.start + x.length)).bind fun x =>
                    if b.special ≠ .plain ∧ x.bookedR < x.cr then some (x, Pool.reserve)
                    else if x.bookedG < x.cg then some (x, .general) else none
                  else none
                let st := if s.tb.clock = .lost then Standing.unjudged
                  else if early then (if target.isSome then .earlyPulled else .earlyStaged)
                  else if offset < w.length then .onTime else .lateGrace
                let ring₂ := match target with
                  | some (x, p) => move ring₁ b₁ true x p
                  | none => ring₁
                let b₂ := match target with
                  | some (x, p) => { there b₁ x p with flags := { b.flags with pulled := true } }
                  | none => b₁
                let up := fun (c : Bool) (k : Nat) => if c then min 65535 (k + 1) else k
                let left := v.holds.filter fun h => decide (h.reason ≠ .noSlot)
                (reserve = false → general = false → answer .noRoom)
                ∧ (reserve = true ∨ general = true → ∃ t, run = .next t ∧ RecordSide s t ∧ t.lanes = s.lanes
                  ∧ t.yd = s.yd ∧ t.cp.flags = s.cp.flags
                  ∧ t.vt.visits.filter (fun u => decide (u.number ≠ n)) = s.vt.visits.filter (fun u => decide (u.number ≠ n))
                  ∧ ∃ u, t.visit? n = some u ∧ t.td = seat u ∧ (∃ items, Answered s t tag .ok items)
                  ∧ (b.state = .arrived → s.tb.minute.isSome = true →
                      t.be = { s.be with
                        lastClass := .port
                        book := s.be.book.map fun x => if x.ref = ref then b₂ else x
                        ring := ring₂.map fun x => if x.start = b₂.tag ∧ st ≠ .earlyStaged then
                          { x with
                            arrived := up true x.arrived, late := up (decide (st = .lateGrace)) x.late
                            pulledIn := up (decide (st = .earlyPulled)) x.pulledIn } else x }
                      ∧ u.claimed = v.claimed.map (fun c => if c.ref = ref then
                          { c with standing := st, holdover := decide (s.tb.clock = .holdover) } else c)
                      ∧ (st ≠ .earlyStaged → u.holds = left)
                      ∧ (st = .earlyStaged → left.length < 6 → u.holds = left
                          ++ [{ reason := .noSlot, source := .desk, placed := now }]))))))

/-- 10.6, 4.3: DESK_SEND and DESK_TURN_BACK. DESK_SEND with the direction not complete, with a hold, or with no
booking is WRONG_STATE with its mark; else the visit is RELEASED, the desk FREE, its place granted to the lane blocked
longest, and the command waits for the admission. DESK_TURN_BACK begins the visit's ending: its moves are CANCELLED, a
stop direction is cleared with them (9.3), it leaves the wait list, and the command waits for the bookings step; with
no other visit on that list the desk and the trouble queue stand. That every answer opens with the presence of the
desk, absent where it is FREE (notes/assumptions/20.md), and the places of the marks (notes/assumptions/21.md) are the
model's choices. -/
def Obligations.DeskSendAndTurnBack : Prop :=
  ∀ (s : State) (tag : Byte) (k : Nat), s.portReady → s.visitsOk → s.standingsOk →
    let send := exec (.deskSend tag k) s
    let back := exec (.deskTurnBack tag k) s
    (¬ (1 ≤ k ∧ k ≤ 4) → send = .next (s.respond tag .badValue []) ∧ back = .next (s.respond tag .badValue []))
    ∧ ∀ d : DeskId, k = d.val + 1 →
      (s.td.desks[d] = .free → send = .next (s.respond tag .wrongState [.absent])
        ∧ back = .next (s.respond tag .wrongState [.absent]))
      ∧ ∀ n m r, s.td.desks[d] = .serving n m r → ∀ v, s.writable? n = some v → v.stage = .atDesk →
        let ready := v.holds.isEmpty && v.complete
        let refused := fun mark : Nat => send = .next (State.respond
          { s with td := { s.td with desks := s.td.desks.set d (.serving n m ready) } } tag .wrongState
          [.present, .word n, .minute m, .byte (if ready then 1 else 0), .byte mark])
        (v.complete = false → refused 0)
        ∧ (v.complete = true → v.holds ≠ [] → refused 1)
        ∧ (v.complete = true → v.holds = [] → v.claimed = [] → refused 2)
        ∧ (v.complete = true → v.holds = [] → v.claimed ≠ [] → ∃ t, send = .next t ∧ InPhase s t tag (.admitting n)
          ∧ RecordSide s t ∧ t.be = s.be ∧ t.yd = s.yd ∧ t.td.desks = s.td.desks.set d .free
          ∧ t.visit? n = some { v with
              stage := .released, lane := none, desk := none, release := some (s.tb.minute.getD 0)
              causes := insertCause .stage v.causes }
          ∧ (s.td.blocked = [] → t.lanes = s.lanes ∧ t.td = { s.td with desks := s.td.desks.set d .free }
              ∧ t.vt = (s.writeVisit n .stage fun w => { w with
                  stage := .released, lane := none, desk := none, release := some (s.tb.minute.getD 0) }).vt)
          ∧ ∀ l rest, s.td.blocked = l :: rest → ∀ u, (s.lane l).visit = some u → s.placeCount ≤ 16 →
              (s.lane l).state = .held → (s.lane l).request = .none → (s.lane l).link.online = true →
              t.td.blocked = rest ∧ t.td.admissions = s.td.admissions ++ [{ lane := l, visit := u }]
              ∧ (t.lane l).trouble = .admitted ∧ (∀ j, j ≠ l → t.lane j = s.lane j)
              ∧ (u ≠ n → (s.visit? u).any (fun w => decide (w.ending = none ∧ w.stage ≠ .closed)) = true →
                  (t.lane l).state = .directed
                  ∧ (t.lane l).sendOff.any (fun o => decide (o.dest = .trouble ∧ o.ticket = .awaited)) = true))
        ∧ ∃ t, back = .next t ∧ InPhase s t tag (.ending n .turnBack) ∧ RecordSide s t ∧ t.be = s.be
          ∧ (s.yd.waitList.all (fun e => decide (e.visit = n)) = true →
              t.td.desks[d] = s.td.desks[d] ∧ t.td.queue = s.td.queue)
          ∧ t.yd.waitList.all (fun e => decide (e.visit ≠ n)) = true
          ∧ (t.visit? n).any (fun w => decide (w.ending = some .turnBack ∧ w.stage = .atDesk
              ∧ w.moves = (v.moves.map fun x =>
                  if x.state = .directed then { x with state := .cancelled, block := none } else x)
              ∧ w.direction = match v.direction with
                | some (.stops q) => if v.moves.any fun x => decide (x.state = .directed) && x.block.isSome then none
                    else some (.stops q)
                | q => q)) = true
          ∧ (v.moves.all (fun x => decide (x.state ≠ .directed)) = true → t.yd.blocks = s.yd.blocks ∧ t.lanes = s.lanes
              ∧ t.td = s.td ∧ t.vt = (s.modVisit n fun w => { w with
                  ending := some .turnBack, moves := (t.visit? n).elim w.moves (·.moves) }).vt)
          ∧ ∀ b : BlockId, s.yd.waitList = [] → s.yd.blocks[b].credit ≤ 255 → t.yd.blocks[b] = { s.yd.blocks[b] with
              credit := min 255 (s.yd.blocks[b].credit + v.moves.countP fun x => decide (x.state = .directed ∧ x.block = some b))
              inTransit := s.yd.blocks[b].inTransit - v.moves.countP fun x => decide (x.state = .directed ∧ x.block = some b) }

/-! ### The gate's settings -/

/-- 11.4, with 1.2, 3.7, 5.1 and 8.3: SETTINGS_WRITE. A STOP_INPUT other than BOTH or OFF is BAD_VALUE; a change of
the stop input's settings while a stop-all is in force WRONG_STATE. Else each setting given is written, clamped,
T_HOLD raised to T_INSPECT; the clock state is checked; a changed stop input starts inactive; new weights recompute
the index of every drop, a new E the eligible minute of every staged visit; a visit so changed is marked, a released
one's index apart. The command is answered at once, or, where a lower G makes windows due, once they are retired.
Nothing else changes: every visit stands but for these fields, and so does the rest of the Visit Table. How a new E
restages, and which retirements are waited for, is the model's choice (notes/assumptions/19.md), as is the index of an
ending visit (notes/assumptions/39.md), the order of the visits that new weights and a new E mark
(notes/assumptions/50.md) and an eligibility that a new E makes due before any retirement (notes/assumptions/61.md). The
gate minute is absent exactly in UNSET (1.1), and the slots in use are under different numbers (4.1). -/
def Obligations.SettingsWriteSets : Prop :=
  ∀ (s : State) (tag : Byte) (op : SettingsOp), s.portReady → s.visitsOk → s.clockOk →
    let run := exec (.settingsWrite tag op) s
    let clamp := fun (lo hi : Nat) (given : Option Nat) (old : Nat) => match given with
      | some n => max lo (min hi n)
      | none => old
    let out := fun (lo hi : Nat) (given : Option Nat) => given.any fun n => decide (n < lo ∨ hi < n)
    let polarity := op.stopPolarity.getD s.cfg.stopPolarity
    let input := op.stopInput.getD s.cfg.stopInput
    let moved := decide (polarity ≠ s.cfg.stopPolarity ∨ input ≠ s.cfg.stopInput)
    let inspect := clamp 1 255 op.tInspect s.cfg.tInspect
    let hold := clamp 1 255 op.tHold s.cfg.tHold
    let p := clamp 1 15 op.p s.tb.p
    let hx := clamp 1 60 op.hx s.tb.hx
    let lost := decide (s.tb.minute = some 1048575)
      || (decide (s.tb.clock = .locked ∨ s.tb.clock = .holdover) && decide (p + hx ≤ s.tb.sinceSync))
    let clock := if lost then ClockState.lost
      else if s.tb.clock = .locked ∧ p ≤ s.tb.sinceSync then .holdover else s.tb.clock
    let clamped := out 1 15 op.p || out 1 60 op.hx || out 0 120 op.e || out 0 120 op.g || out 10 120 op.sealWindow
      || out 0 120 op.damageWindow || op.weights.toList.any (out 0 15) || out 1 255 op.tInspect || out 1 255 op.tHold
      || decide (hold < inspect)
    let st := if clamped then Status.okClamped else .ok
    (op.stopInput.any (fun m => decide (m ≠ .both ∧ m ≠ .off)) = true → run = .next (s.respond tag .badValue []))
    ∧ (op.stopInput.any (fun m => decide (m ≠ .both ∧ m ≠ .off)) = false →
      (s.stop.inForce = true → moved = true → run = .next (s.respond tag .wrongState []))
      ∧ (s.stop.inForce = false ∨ moved = false → ∃ t, run = .next t
        ∧ t.cfg = {
            e := clamp 0 120 op.e s.cfg.e, g := clamp 0 120 op.g s.cfg.g
            stopMode := op.stopMode.getD s.cfg.stopMode, restart := op.restart.getD s.cfg.restart
            stopPolarity := polarity, stopInput := input
            sealWindow := clamp 10 120 op.sealWindow s.cfg.sealWindow
            damageWindow := clamp 0 120 op.damageWindow s.cfg.damageWindow
            weights := t.cfg.weights, tInspect := inspect, tHold := max inspect hold }
        ∧ (∀ z : Fin 7, t.cfg.weights[z] = clamp 0 15 op.weights[z] s.cfg.weights[z])
        ∧ t.tb = { s.tb with p, hx, clock } ∧ t.cp.flags = clockFlags s.tb.clock clock s.cp.flags
        ∧ t.strap = s.strap ∧ t.be = s.be ∧ t.lanes = s.lanes ∧ t.yd = s.yd ∧ t.td = s.td ∧ t.pending = s.pending
        ∧ t.stop = (if moved then { s.stop with filter := { level := false, run := 0 } } else s.stop)
        ∧ (let made := (s.be.ring.filter fun w => s.tb.minute.any fun n =>
              decide (w.start + w.length + t.cfg.g ≤ n ∧ n < w.start + w.length + s.cfg.g)).map (·.start)
          let waits := t.retirementHeld = true ∧ ∃ w, t.be.ring.head? = some w ∧ ∃ k ∈ made, w.start ≤ k
          (¬ waits → Answered s t tag st []) ∧ (waits → InPhase s t tag (.retiring st made.max?)))
        ∧ t.vt = { s.vt with visits := t.vt.visits, changed := t.vt.changed }
        ∧ t.vt.visits.map (·.number) = s.vt.visits.map (·.number) ∧ s.vt.changed <+: t.vt.changed
        ∧ (∀ n ∈ t.vt.changed, n ∈ s.vt.changed ∨ t.visit? n ≠ s.visit? n)
        ∧ ∀ n v, s.visit? n = some v →
            let moves := if t.cfg.weights ≠ s.cfg.weights ∧ v.stage ≠ .closed then v.moves.map fun m =>
                { m with damage := m.damage.map fun d => { d with
                  index := min 255 ((d.severity.zipWith (fun g w => w * g * g) t.cfg.weights).toList.sum) } }
              else v.moves
            let early := v.claimed.filterMap fun c =>
              if c.standing = .earlyStaged then (s.booking? c.ref).map (·.tag) else none
            let minute := (early.map fun m => m - t.cfg.e).foldl max 0
            let due := decide (s.tb.clock ≠ .unset) && decide (minute ≤ s.tb.minute.getD 0)
            let staging := if t.cfg.e ≠ s.cfg.e ∧ n ∈ s.vt.stagedIn ∧ (s.writable? n).isSome = true then
                v.staging.map fun g => { minute, eligible := g.eligible || due }
              else v.staging
            let checked := decide (moves ≠ v.moves ∧ v.stage ≠ .released)
            let staged := decide (staging ≠ v.staging)
            t.visit? n = some { v with
              moves, staging
              causes := let c := if checked then insertCause .checks v.causes else v.causes
                if staged then insertCause .stage c else c }
            ∧ ((checked || staged) = true → n ∈ t.vt.changed)))

/-! ### Events of the lanes' inputs -/

/-- 5.1, 5.2, 5.3, 5.5: the ten rows of a loop and of BOOM_UP, LEVEL_CHANGE and PULSE. A row stands for DEPTH samples
that agree, and a PULSE in RISE or FALL for the unreported change before it too (notes/assumptions/5.md and 6.md).
Where the filter accepts no such change nothing happens. Else the filter, the stamps, the occupy count and a pending
withdrawal are written in every lane state; a lane in FAULT STOPPED does nothing more, and no row touches more than
the lanes' side. A change the mode does not report, and a PULSE, change nothing else; a PULSE is counted, to 15, while
the axle window is open. -/
def Obligations.InputChangesAreTaken : Prop :=
  ∀ (s : State) (l : LaneId),
    let x := s.lane l
    let rows : List (Instr × Input × Bool) :=
      [(.approachOccupy l, .approach, true), (.approachVacate l, .approach, false), (.stopOccupy l, .stop, true)
        , (.stopVacate l, .stop, false), (.boomOccupy l, .boom, true), (.boomVacate l, .boom, false)
        , (.exitOccupy l, .exit, true), (.exitVacate l, .exit, false), (.up l, .boomUp, true), (.down l, .boomUp, false)]
    (∀ row ∈ rows,
      let y := x.took s.tb.laneSec row.2.1 row.2.2
      (s.reportsChange l row.2.1 row.2.2 = false → exec row.1 s = .next s)
      ∧ (s.reportsChange l row.2.1 row.2.2 = true →
        (x.state = .fault .stopped → exec row.1 s = .next { s with lanes := s.lanes.set l y })
        ∧ ∃ t, exec row.1 s = .next t ∧ LaneSide s t
          ∧ (t.lane l).cfg = x.cfg ∧ (t.lane l).filters = y.filters ∧ (t.lane l).stamps = y.stamps))
    ∧ (∀ (i : Input) (active : Bool),
      let mode := x.cfg.mode[inputIdx i]
      let unreported := decide (mode = .level ∨ (mode = .rise ∧ active = false) ∨ (mode = .fall ∧ active = true))
      let moves := decide (l.val < s.strap ∧ 1 ≤ x.cfg.depth ∧ x.filters[inputIdx i].level ≠ active)
      let y : Lane := { x with
        filters := x.filters.set (inputIdx i) { level := active, run := 0 }
        output := if i = .boom ∧ active = false ∧ x.output = .withdrawPending then .withdrawn else x.output }
      exec (.levelChange l i active) s =
        .next (if unreported && moves then { s with lanes := s.lanes.set l y } else s))
    ∧ (1 ≤ x.cfg.depth →
      let mode := x.cfg.mode[inputIdx .axle]
      let level := decide (mode = .rise) || (decide (mode = .both) && !x.filters[inputIdx .axle].level)
      let counts := x.axleOpen && decide (x.state ≠ .fault .stopped)
      let y : Lane := { x with
        filters := x.filters.set (inputIdx .axle) { level, run := 0 }
        axleCount := if counts then min 15 (x.axleCount + 1) else x.axleCount }
      let heard := decide (l.val < s.strap ∧ (mode = .both ∨ mode = .rise ∨ mode = .fall))
      exec (.pulse l) s = .next (if heard then { s with lanes := s.lanes.set l y } else s))

/-- 4.2, 5.7, 7.3: what APPROACH and STOP events do, once accepted, to a lane that is not stopped. They wake, park and
start APPROACH; a STOP in IDLE or APPROACH closes a CLOSING lane, and else the lane asks for a slot: granted at once
it binds a new visit and starts PEDESTAL_LIMIT, and with none free it waits; a STOP VACATE while it waits withdraws
the request and returns the lane to APPROACH; from IDENTIFY to RELEASING they are only remembered. Each row not named
here for a state changes nothing but what the acceptance writes. A plate's search that stands as the request in flight
while the lane still owes one (notes/assumptions/37.md), the axle count of 0 of a CLOSING lane that closes
(notes/assumptions/47.md) and an APPROACH OCCUPY remembered in IDENTIFY that a STOP VACATE back to APPROACH and the
events there leave alone (notes/assumptions/72.md) are the model's choices. -/
def Obligations.ApproachAndStopDriveLane : Prop :=
  ∀ (s : State) (l : LaneId), (s.lane l).state ≠ .fault .stopped →
    let x := s.lane l
    let now := s.tb.minute.getD 0
    let only := fun (c : Instr) (y : Lane) => exec c s = .next { s with lanes := s.lanes.set l y }
    let remembers := decide (x.state = .identify ∨ x.state = .checking ∨ x.state = .held ∨ x.state = .directed
      ∨ x.state = .releasing)
    (s.reportsChange l .approach true = true →
      let y := x.took s.tb.laneSec .approach true
      only (.approachOccupy l)
        (if x.state = .idle ∨ (x.state = .parked ∧ x.wakeArmed = some true) then
          { y with
            state := .approach, approachRef := some now, parkRef := none, wakeArmed := none, axleCount := 0
            axleOpen := true }
        else if remembers then { y with memApproach := true } else y))
    ∧ (s.reportsChange l .approach false = true →
      let y := x.took s.tb.laneSec .approach false
      only (.approachVacate l)
        (if x.state = .idle then { y with parkRef := some now }
        else if x.state = .parked then { y with wakeArmed := some true }
        else if x.state = .approach then { y with approachRef := some now }
        else if remembers then { y with memApproach := false } else y))
    ∧ (s.reportsChange l .stop true = true →
      let y := x.took s.tb.laneSec .stop true
      let arrives := decide (x.state = .idle ∨ x.state = .approach)
      (arrives = false → only (.stopOccupy l) (if x.state = .releasing then { y with memStop := true } else y))
      ∧ (arrives = true → x.closing = true → ∃ t, exec (.stopOccupy l) s = .next t ∧ t = { s with lanes := t.lanes }
        ∧ (∀ j, j ≠ l → t.lane j = s.lane j) ∧ t.lane l = { y.shut with link := (t.lane l).link })
      ∧ (arrives = true → x.closing = false → l ∉ s.vt.slotWait →
        let z : Lane := { y with state := .identify, visit := none, approachRef := none, parkRef := none, axleOpen := false }
        (64 ≤ s.vt.visits.length ∨ s.vt.slotWait ≠ [] → ∃ t, exec (.stopOccupy l) s = .next t
          ∧ t = { s with lanes := t.lanes, vt := { s.vt with slotWait := s.vt.slotWait ++ [l] } }
          ∧ (∀ j, j ≠ l → t.lane j = s.lane j) ∧ t.lane l = { z with link := (t.lane l).link })
        ∧ (s.vt.visits.length < 64 → s.vt.slotWait = [] → s.visitsOk → ∃ t, exec (.stopOccupy l) s = .next t
          ∧ t = { s with lanes := t.lanes, vt := t.vt } ∧ (∀ j, j ≠ l → t.lane j = s.lane j)
          ∧ t.vt.visits.dropLast = s.vt.visits ∧ t.vt.slotWait = []
          ∧ ∃ v, t.vt.visits.getLast? = some v ∧ s.visit? v.number = none ∧ (t.lane l).visit = some v.number
            ∧ v.stage = .atLane ∧ v.lane = some l ∧ v.axle = x.axleCount ∧ v.arrival = now ∧ v.arrivalSec = s.tb.laneSec
            ∧ v.plate = x.pendingPlate ∧ v.number ∈ t.vt.changed
            ∧ (t.lane l).state = .identify ∧ (t.lane l).timer .pedestal = .running x.cfg.pedestalLimit
            ∧ (t.lane l).timer .damageWindow
                = (if s.cfg.damageWindow = 0 then .stopped else .running s.cfg.damageWindow)
            ∧ (t.lane l).axleOpen = false ∧ (t.lane l).pendingPlate = none
            ∧ (∀ p, x.pendingPlate = some p → (t.lane l).request = .search (.plate p))
            ∧ (x.pendingPlate = none → x.pendingEntry = none → (t.lane l).request = x.request
                ∧ (t.lane l).nothingEntered = true))))
    ∧ (s.reportsChange l .stop false = true →
      let y := x.took s.tb.laneSec .stop false
      let leaves := decide (x.state = .identify ∧ l ∈ s.vt.slotWait) && x.visit.isNone
      (leaves = false → only (.stopVacate l) (if x.state = .releasing then { y with memStop := false } else y))
      ∧ (leaves = true → ∃ t, exec (.stopVacate l) s = .next t
        ∧ t = { s with lanes := t.lanes, vt := { s.vt with slotWait := s.vt.slotWait.filter fun j => decide (j ≠ l) } }
        ∧ (∀ j, j ≠ l → t.lane j = s.lane j)
        ∧ t.lane l = { y with state := .approach, approachRef := some now, link := (t.lane l).link }))

/-- 5.3, 5.5, 7.7: what BOOM, EXIT and arm events do, once accepted, to a lane that is not stopped. A second BOOM
OCCUPY of a release is a TAILGATE; a release ends when EXIT and then BOOM have cleared, and the lane goes IDLE; UP
completes a raise in progress by the send-off's destination, a BACK send-off without a visit going on to RELEASING
alone; DOWN with the output ASSERTED is a BOOM_JAM. Each row not named here for a state changes nothing but what the
acceptance writes. CLERK for a visit that comes to the trouble area with no hold (notes/assumptions/12.md), the visit
of a BACK send-off bound until its bookings step (notes/assumptions/13.md), the timers a fault stops
(notes/assumptions/16.md), the axle count of a lane that closes (notes/assumptions/47.md), a DOWN within a raise in
progress taken as a BOOM_JAM (notes/assumptions/58.md), drops not opened that stay so at a release to the yard
(notes/assumptions/62.md) and HELD after a refused release (notes/assumptions/27.md) are the model's choices. -/
def Obligations.BoomAndArmDriveLane : Prop :=
  ∀ (s : State) (l : LaneId), (s.lane l).state ≠ .fault .stopped →
    let x := s.lane l
    let now := s.tb.minute.getD 0
    let only := fun (c : Instr) (y : Lane) => exec c s = .next { s with lanes := s.lanes.set l y }
    let faulted := fun (c : Instr) (y : Lane) (cause : FaultCause) => ∃ t, exec c s = .next t
      ∧ t = { s with lanes := t.lanes, vt := t.vt, cp := t.cp } ∧ t.cp.flags = { s.cp.flags with laneFault := true }
      ∧ t.lanes = s.lanes.set l { y with
          state := .fault cause, memApproach := false, memStop := false, output := y.output.withdraw (y.reads .boom)
          visit := if x.state = .releasing then none else x.visit
          timers := (y.timers.set 0 .stopped).set 3 .stopped }
      ∧ t.vt = (match cause, x.lastReleased with
          | .tailgate, some n => (s.writeVisit n .tailgate id).vt
          | _, _ => s.vt)
    let ended := fun (c : Instr) (y : Lane) => ∃ t, exec c s = .next t ∧ LaneSide s t ∧ t.yd = s.yd ∧ t.td = s.td
      ∧ (∀ j, j ≠ l → t.lane j = s.lane j)
      ∧ (x.closing = true → t.vt = s.vt ∧ t.lane l = { y.shut with
          output := y.output.withdraw (y.reads .boom), link := (t.lane l).link })
      ∧ (x.closing = false → x.memStop = false → t.vt = s.vt ∧ t.lane l = { y.cleared with
          state := if x.memApproach then .approach else .idle
          approachRef := if x.memApproach then some now else none
          parkRef := if x.memApproach then none else some now
          axleCount := 0, axleOpen := x.memApproach, memApproach := false
          output := y.output.withdraw (y.reads .boom), timers := y.timers.set 3 .stopped, link := (t.lane l).link })
      ∧ (x.closing = false → x.memStop = true → (t.lane l).state = .identify)
    (s.reportsChange l .boom true = true →
      let y := x.took s.tb.laneSec .boom true
      (x.state = .releasing → 2 ≤ y.boomCount → faulted (.boomOccupy l) y .tailgate)
      ∧ (¬ (x.state = .releasing ∧ 2 ≤ y.boomCount) → only (.boomOccupy l) y))
    ∧ (s.reportsChange l .boom false = true →
      let y := x.took s.tb.laneSec .boom false
      let ends := decide (x.state = .releasing) && x.exitTaken && !x.reads .exit
      (ends = true → ended (.boomVacate l) y) ∧ (ends = false → only (.boomVacate l) y))
    ∧ (s.reportsChange l .exit true = true → only (.exitOccupy l) (x.took s.tb.laneSec .exit true))
    ∧ (s.reportsChange l .exit false = true →
      let y := x.took s.tb.laneSec .exit false
      (x.state ≠ .releasing → only (.exitVacate l) y)
      ∧ (x.state = .releasing → x.reads .boom = true → only (.exitVacate l) { y with exitTaken := true })
      ∧ (x.state = .releasing → x.reads .boom = false → ended (.exitVacate l) y))
    ∧ (s.reportsChange l .boomUp false = true →
      let y := x.took s.tb.laneSec .boomUp false
      let jams := decide (x.output = .asserted) && match x.state with
        | .fault _ => false
        | _ => true
      (jams = true → faulted (.down l) y .boomJam) ∧ (jams = false → only (.down l) y))
    ∧ (s.reportsChange l .boomUp true = true →
      let y := x.took s.tb.laneSec .boomUp true
      let raising := decide (x.state = .directed) && match x.timers[0] with
        | .running _ => true
        | _ => false
      (raising = false ∨ x.sendOff = none →
        only (.up l) (if raising then { y with timers := y.timers.set 0 .stopped } else y))
      ∧ (raising = true → ∀ o, x.sendOff = some o → o.dest = .back → x.visit = none →
        only (.up l) { y with
          state := .releasing, lastReleased := none, endedPrompt := some o.prompt, sendOff := none, exitTaken := false
          trouble := .none, keptEvents := [], keptGrant := false, identTold := false, finalTold := false
          timers := (((y.timers.set 0 .stopped).set 4 .stopped).set 5 .stopped).set 3 (.running x.cfg.clearLimit) })
      ∧ (raising = true → ∀ o, x.sendOff = some o → ∀ n, x.visit = some n → ∀ v, s.writable? n = some v →
        s.visitsOk → v.stage = .atLane → v.lane = some l → (∀ j, (s.lane j).visit = some n → j = l) →
        let freed := v.holds.isEmpty && !v.claimed.isEmpty && v.moves.all fun m => decide (m.state = .directed)
        let away := fun (t : State) (bound : Option Nat) => (t.lane l).state = .releasing ∧ (t.lane l).visit = bound
          ∧ (t.lane l).sendOff = none
          ∧ (t.lane l).lastReleased = some n ∧ (t.lane l).timer .clear = .running x.cfg.clearLimit
          ∧ (t.lane l).timer .raise = .stopped ∧ (t.lane l).timer .sealWindow = .stopped
          ∧ (t.lane l).timer .damageWindow = .stopped ∧ (t.lane l).trouble = .none
        ∃ t, exec (.up l) s = .next t ∧ LaneSide s t
        ∧ (o.dest = .yard → freed = true → away t none ∧ (t.lane l).owed = x.owed ++ [.admission n] ∧ t.yd = s.yd ∧ t.td = s.td
            ∧ t.visit? n = some { v with
                stage := .released, lane := none, desk := none, release := some now
                causes := insertCause .stage v.causes })
        ∧ (o.dest = .yard → freed = false → t.vt = s.vt ∧ t.yd = s.yd ∧ t.td = s.td ∧ (t.lane l).state = .held
            ∧ (t.lane l).sendOff = none ∧ (t.lane l).visit = some n
            ∧ (t.lane l).output = x.output.withdraw (x.reads .boom))
        ∧ (o.dest = .staging → away t none ∧ t.yd = s.yd ∧ t.td = s.td ∧ t.vt.stagedIn = s.vt.stagedIn ++ [n]
            ∧ (t.visit? n).any (fun w => decide (w.stage = .staged ∧ w.lane = none)) = true)
        ∧ (o.dest = .trouble → s.td.admissions.any (fun a => decide (a.visit = n)) = true →
            away t none ∧ t.yd = s.yd ∧ t.td = { s.td with
              queue := s.td.queue ++ [n], admissions := s.td.admissions.filter fun a => decide (a.visit ≠ n) }
            ∧ (t.visit? n).any (fun w => decide (w.stage = .queued ∧ w.lane = none) && !w.holds.isEmpty) = true)
        ∧ (o.dest = .back → l ∉ s.td.blocked → away t (some n) ∧ (t.lane l).owed = x.owed ++ [.ending n .turnBack]
            ∧ (t.visit? n).any (fun w => decide (w.ending = some .turnBack)
                && w.moves.all fun m => decide (m.state ≠ .directed)) = true)))

/-! ### Timer expiries -/

/-- 5.4, 5.5, 7.4, 7.7, 7.8, 8.1, 8.4: the six expiries. A timer RUNNING at 0 is one whose expiry is reached and not
yet taken (notes/assumptions/4.md). One not so expires with no effect; else it is STOPPED, and where its rule does not
apply any more that is all. RAISE_LIMIT in DIRECTED is a BOOM_JAM and CLEAR_LIMIT in RELEASING STALLED. PEDESTAL_LIMIT
in IDENTIFY places NO_BOOKING, and TIMEOUT where nothing was entered, and the lane goes HELD, or is kept while a
request is in flight. HOLD_LIMIT in HELD offers the visit to the trouble area: ADMITTED, or BLOCKED when it is full.
SEAL_WINDOW closes the OPEN drops; DAMAGE_WINDOW may make the checks final. That a fault stops RAISE_LIMIT and
CLEAR_LIMIT is the model's choice (notes/assumptions/16.md), as is SEAL released at a close (notes/assumptions/17.md).
-/
def Obligations.TimerExpiriesAct : Prop :=
  ∀ (s : State) (l : LaneId),
    let x := s.lane l
    let rows : List (Instr × Fin 6) :=
      [(.raiseLimitExpiry l, 0), (.pedestalLimitExpiry l, 1), (.holdLimitExpiry l, 2), (.clearLimitExpiry l, 3)
        , (.sealWindowExpiry l, 4), (.damageWindowExpiry l, 5)]
    let due := fun k : Fin 6 => x.timers[k] = .running 0
    let stop := fun k : Fin 6 => { x with timers := x.timers.set k .stopped }
    let only := fun (c : Instr) (y : Lane) => exec c s = .next { s with lanes := s.lanes.set l y }
    let faulted := fun (c : Instr) (cause : FaultCause) => ∃ t, exec c s = .next t
      ∧ t = { s with lanes := t.lanes, cp := t.cp } ∧ t.cp = { s.cp with flags := { s.cp.flags with laneFault := true } }
      ∧ t.lanes = s.lanes.set l { x with
          state := .fault cause, memApproach := false, memStop := false, output := x.output.withdraw (x.reads .boom)
          visit := if x.state = .releasing then none else x.visit
          timers := (x.timers.set 0 .stopped).set 3 .stopped }
    (∀ row ∈ rows, (x.timers[row.2] ≠ .running 0 → exec row.1 s = .next s)
      ∧ (due row.2 → ∃ t, exec row.1 s = .next t ∧ LaneSide s t ∧ (t.lane l).timers[row.2] = .stopped))
    ∧ (due 0 → (x.state = .directed → faulted (.raiseLimitExpiry l) .boomJam)
      ∧ (x.state ≠ .directed → only (.raiseLimitExpiry l) (stop 0)))
    ∧ (due 3 → (x.state = .releasing → faulted (.clearLimitExpiry l) .stalled)
      ∧ (x.state ≠ .releasing → only (.clearLimitExpiry l) (stop 3)))
    ∧ (due 1 → (x.state ≠ .identify ∨ x.visit = none → only (.pedestalLimitExpiry l) (stop 1))
      ∧ ∀ n, x.visit = some n → x.state = .identify →
        (x.request ≠ .none → only (.pedestalLimitExpiry l) { stop 1 with keptExpiry := true })
        ∧ (x.request = .none → s.standingsOk → ∃ t, exec (.pedestalLimitExpiry l) s = .next t
          ∧ t = { s with lanes := t.lanes, vt := t.vt } ∧ (∀ j, j ≠ l → t.lane j = s.lane j)
          ∧ t.lane l = { x with
              state := .held, sendOff := none, keptExpiry := false, link := (t.lane l).link
              timers := if x.trouble = .blocked then x.timers.set 1 .stopped
                else (x.timers.set 1 .stopped).set 2 (.running x.cfg.holdLimit) }
          ∧ ∀ v, s.writable? n = some v → v.stage = .atLane → v.lane = some l → v.holds.length ≤ 4 →
              v.holds.all (fun h => decide (h.reason ≠ .noBooking ∧ h.reason ≠ .timeout)) = true →
              let new := fun q => ({ reason := q, source := .lane, placed := s.tb.minute.getD 0 } : Hold)
              (t.visit? n).any (fun w => decide (w.holds = v.holds ++ [new .noBooking]
                ++ (if x.nothingEntered then [new .timeout] else []))) = true))
    ∧ (due 2 → (x.state ≠ .held → only (.holdLimitExpiry l) (stop 2))
      ∧ (x.state = .held → x.request ≠ .none → only (.holdLimitExpiry l) { stop 2 with
          keptEvents := if KeptEvent.offer ∈ x.keptEvents then x.keptEvents else x.keptEvents ++ [.offer] })
      ∧ (x.state = .held → x.request = .none → x.trouble ≠ .none ∨ x.visit = none → only (.holdLimitExpiry l) (stop 2))
      ∧ ∀ n, x.visit = some n → x.state = .held → x.request = .none → x.trouble = .none →
        (16 ≤ s.placeCount → exec (.holdLimitExpiry l) s = .next { s with
          lanes := s.lanes.set l { stop 2 with trouble := .blocked }, td := { s.td with blocked := s.td.blocked ++ [l] } })
        ∧ (s.placeCount < 16 → x.link.online = true → (s.writable? n).isSome = true → ∃ t,
          exec (.holdLimitExpiry l) s = .next t
          ∧ t.td = { s.td with admissions := s.td.admissions ++ [{ lane := l, visit := n }] } ∧ t.yd = s.yd
          ∧ (∀ j, j ≠ l → t.lane j = s.lane j) ∧ (t.lane l).state = .directed ∧ (t.lane l).visit = some n
          ∧ (t.lane l).trouble = .admitted
          ∧ (t.lane l).sendOff.any (fun o => decide (o.dest = .trouble ∧ o.ticket = .awaited)) = true
          ∧ (t.visit? n).any (fun w => decide (w.direction = some .trouble)) = true
          ∧ t.cp.flags = { s.cp.flags with troubleFull := s.cp.flags.troubleFull || decide (s.placeCount = 15) }))
    ∧ (due 4 →
      let opened := fun v : Visit => v.moves.any fun m => m.sealRec.any fun r => decide (r.window = .opened)
      ((x.visit.bind s.writable?).any opened = false → only (.sealWindowExpiry l) (stop 4))
      ∧ ∀ n, x.visit = some n → ∀ v, s.writable? n = some v → opened v = true → v.stage = .atLane → v.lane = some l →
        s.visitsOk → (∀ k, (s.lane k).visit = some n → k = l) → ∃ t, exec (.sealWindowExpiry l) s = .next t ∧ LaneSide s t
        ∧ (t.visit? n).any (fun w => decide (w.moves = (v.closeDrops .opened).moves ∧ w.stray = v.stray)
            && (!(v.closeDrops .opened).anyWrong || w.holds.any (fun h => decide (h.reason = .badSeal))
              || decide (v.holds.length = 6) && v.holds.all fun h => decide (h.reason ≠ .clerk))) = true)
    ∧ (due 5 →
      let final := x.identTold && !x.finalTold && (x.visit.bind s.visit?).any fun v =>
        (v.moves.filterMap (·.sealRec)).all fun r => decide (r.window = .closed)
      let bare := (x.visit.bind s.visit?).any fun v => v.holds.isEmpty
      (final = false → only (.damageWindowExpiry l) (stop 5))
      ∧ (final = true → x.state = .fault .stopped → only (.damageWindowExpiry l) { stop 5 with
          finalTold := true, keptAnswers := x.keptAnswers ++ [.checksFinal] })
      ∧ (final = true → x.state ≠ .fault .stopped → x.state ≠ .checking →
          only (.damageWindowExpiry l) { stop 5 with finalTold := true })
      ∧ (final = true → x.state = .checking → bare = true →
          only (.damageWindowExpiry l) { stop 5 with finalTold := true, request := .direction })
      ∧ (final = true → x.state = .checking → bare = false → ∃ t, exec (.damageWindowExpiry l) s = .next t
          ∧ t = { s with lanes := t.lanes } ∧ (∀ j, j ≠ l → t.lane j = s.lane j)
          ∧ (t.lane l).state = .held ∧ (t.lane l).visit = x.visit ∧ (t.lane l).finalTold = true))

/-! ### Messages and events of the pedestal links -/

/-- 6.3 to 6.5, 7.4, 7.10: the rows of a whole message. On a lane above the strap, or in BREAK_SEEN, it has no effect;
one whose fields do not fit sets BADMSG; with a message held in the buffer it sets OVERRUN; a lane in FAULT STOPPED
has it held; a CLOSED, PARKED, IDLE or APPROACH lane discards it. A CARD or KEYED_REF in IDENTIFY is the pending entry
without a visit, and with an unclaimed one starts its search or claim; a KEYED_CONTAINER queues a prompt. KIOSK_HELLO
brings the link ONLINE and the present prompt is queued. That a row stands for a whole message received in one step is
the model's choice (notes/assumptions/11.md), as is a search or claim that stands as the request in flight while the
lane still owes one (notes/assumptions/37.md), and a message taken on an OFFLINE link (notes/assumptions/54.md). -/
def Obligations.MessagesReachLane : Prop :=
  ∀ (s : State) (l : LaneId) (text : Text) (slot : Option Nat) (key : Key),
    let x := s.lane l
    let slotted := slot.all fun k => decide (k = 1 ∨ k = 2)
    let rows : List (Instr × Option InMsg) :=
      [(.card l text, if cardForm text then some (.card text) else none)
        , (.keyedRef l text, if refForm text then some (.keyedRef text) else none)
        , (.keyedContainer l text slot,
            if textForm isAlnum 1 11 text && slotted then some (.keyedContainer text slot) else none)
        , (.sealRead l text slot, if sealForm text && slotted then some (.sealRead text slot) else none)
        , (.press l key, some (.press key))]
    let listening := decide (l.val < s.strap ∧ x.link.rx ≠ .breakSeen)
    let y : Lane := { x with link := { x.link with rx := .hunt, assembly := [] } }
    let only := fun (c : Instr) (z : Lane) => exec c s = .next { s with lanes := s.lanes.set l z }
    let queued := fun m : OutMsg => ({ y with link := (y.link.queue m).1.noteReports (y.link.queue m).2 } : Lane)
    let link := fun k : Link => ({ y with link := k } : Lane)
    let taken := x.link.rxBuf = none ∧ x.state ≠ .fault .stopped
    (∀ row ∈ rows,
      (listening = false → exec row.1 s = .next s)
      ∧ (listening = true → row.2 = none →
          only row.1 (link { y.link with flags := { x.link.flags with badMsg := true } }))
      ∧ ∀ m, row.2 = some m → listening = true →
        (x.link.rxBuf ≠ none → only row.1 (link { y.link with flags := { x.link.flags with overrun := true } }))
        ∧ (x.link.rxBuf = none → x.state = .fault .stopped → only row.1 (link { y.link with rxBuf := some m }))
        ∧ (x.link.rxBuf = none →
            x.state = .closed ∨ x.state = .parked ∨ x.state = .idle ∨ x.state = .approach → only row.1 y))
    ∧ (listening = true → taken →
      (cardForm text = true →
        (x.state = .identify → x.visit = none → only (.card l text) { y with pendingEntry := some (.card text) })
        ∧ (x.state ≠ .identify → only (.card l text) y)
        ∧ (x.state = .identify → ∀ n, x.visit = some n →
          (s.claimedRefs n ≠ [] → only (.card l text) y)
          ∧ (s.claimedRefs n = [] →
            let z : Lane := { y with
              nothingEntered := false
              request := if x.request = .none then .search (.card text) else x.request
              pendingEntry := if x.request = .none then x.pendingEntry else some (.card text) }
            let vt := (s.writeVisit n .checks fun v => { v with card := some text }).vt
            exec (.card l text) s = .next { s with vt, lanes := s.lanes.set l z })))
      ∧ (refForm text = true →
        (x.state = .identify → x.visit = none → only (.keyedRef l text) { y with pendingEntry := some (.ref text) })
        ∧ (x.state ≠ .identify → only (.keyedRef l text) y)
        ∧ (x.state = .identify → ∀ n, x.visit = some n →
          (s.claimedRefs n ≠ [] → only (.keyedRef l text) y)
          ∧ (s.claimedRefs n = [] → only (.keyedRef l text) { y with
              nothingEntered := false
              request := if x.request = .none then .claim [text] else x.request
              pendingEntry := if x.request = .none then x.pendingEntry else some (.ref text) })))
      ∧ (textForm isAlnum 1 11 text = true → slotted = true →
        let past := decide (x.state = .checking ∨ x.state = .held ∨ x.state = .directed)
        (past = false ∨ x.visit.bind s.visit? = none → only (.keyedContainer l text slot) y)
        ∧ (past = true → ∀ v, x.visit.bind s.visit? = some v →
          let drops := v.moves.filter fun m => decide (m.kind = .exportDrop ∨ m.kind = .emptyReturn)
          let named := match slot with
            | some k => drops[k - 1]?.toList
            | none => drops
          let found := containerOk text && named.any fun m => decide (m.container = some text)
          only (.keyedContainer l text slot)
            (queued (if found then x.presentMsg else .prompt { code := .reenterContainer, minute := none })))))
    ∧ ((listening = false → exec (.kioskHello l) s = .next s)
      ∧ (listening = true → x.state = .fault .stopped → x.link.cts = false →
          only (.kioskHello l) (link { y.link with online := true }))
      ∧ (listening = true → ∃ t, exec (.kioskHello l) s = .next t ∧ t = { s with lanes := t.lanes }
        ∧ (∀ j, j ≠ l → t.lane j = s.lane j) ∧ (t.lane l).link.online = true ∧ (t.lane l).state = x.state
        ∧ (t.lane l).link.flags = x.link.flags ∧ (t.lane l).link.rxBuf = x.link.rxBuf
        ∧ (x.state ≠ .fault .stopped → x.state ≠ .directed → x.link.cts = false → x.link.txQueue = [] →
            t.lane l = link { y.link with online := true, txQueue := [x.presentMsg] })))

/-- 7.4, 7.8, 7.10, 8.1: what PRESS and SEAL_READ do, once taken. CONFIRM, and CANCEL past identification, queue the
present prompt; CANCEL in IDENTIFY drops the pending entry, or sends a driver without a booking back. HELP places
CLERK where the list takes it, and from IDENTIFY, HELD and a YARD send-off, which first returns to HELD with its raise
taken back, whatever the list did with CLERK (7.7), offers the visit to the trouble area: DIRECTED there, or HELD and
BLOCKED when it is full, or kept while a request is in flight. As a TROUBLE send-off so begun closes drops not yet
opened, hold SEAL stands for a wrong verdict, in a full list in CLERK's place. A SEAL_READ is recorded for the visit
at the pedestal, or the one last released, and hold SEAL is released where a verdict became MATCH, none is wrong, no
read is stray and the hold's source is LANE. A CLOSED, PARKED, IDLE or APPROACH lane discards every message. The rows
of whole messages (notes/assumptions/11.md), the visit of a BACK send-off bound in RELEASING until its bookings step
(notes/assumptions/13.md), PEDESTAL_LIMIT running on at a CANCEL that sends the driver back
(notes/assumptions/16.md), messages taken on an OFFLINE link (notes/assumptions/54.md), the kept events
(notes/assumptions/15.md) and the release of SEAL at a close (notes/assumptions/17.md) are the model's choices. -/
def Obligations.PressAndSealReadAct : Prop :=
  ∀ (s : State) (l : LaneId), l.val < s.strap → (s.lane l).link.rx ≠ .breakSeen → (s.lane l).link.rxBuf = none →
    (s.lane l).state ≠ .fault .stopped →
    let x := s.lane l
    let y : Lane := { x with link := { x.link with rx := .hunt, assembly := [] } }
    let only := fun (c : Instr) (z : Lane) => exec c s = .next { s with lanes := s.lanes.set l z }
    let queued := fun m : OutMsg => ({ y with link := (y.link.queue m).1.noteReports (y.link.queue m).2 } : Lane)
    let unclaimed := x.visit.any fun n => (s.claimedRefs n).isEmpty
    let discards := decide (x.state = .closed ∨ x.state = .parked ∨ x.state = .idle ∨ x.state = .approach)
    (discards = true → ∀ key, only (.press l key) y)
    ∧ (x.visit = none → only (.press l .confirm) y ∧ only (.press l .help) y
      ∧ only (.press l .cancel) (if x.state = .identify then { y with pendingEntry := none } else y))
    ∧ (x.visit ≠ none → discards = false → only (.press l .confirm) (queued x.presentMsg)
      ∧ (x.state ≠ .identify → only (.press l .cancel) (queued x.presentMsg))
      ∧ (∀ p, x.presentMsg = .prompt p → x.link.online = true → x.link.cts = false →
          (queued x.presentMsg).link.txQueue =
            if x.link.txQueue.any fun m => decide (m.kind = 112) then replaceKind (.prompt p) x.link.txQueue
            else x.link.txQueue ++ [.prompt p])
      ∧ (x.state = .identify → ¬ (x.request = .none ∧ unclaimed = true) → only (.press l .cancel) y)
      ∧ (x.state = .identify → x.request = .none → unclaimed = true → ∃ t, exec (.press l .cancel) s = .next t
          ∧ LaneSide s t
          ∧ (x.armUp = false → t = { s with lanes := t.lanes } ∧ (∀ j, j ≠ l → t.lane j = s.lane j)
            ∧ t.lane l = { y with
                state := .directed, output := .asserted, boomCount := 0
                sendOff := some { dest := .back, ticket := .none, raiseOrdered := true, minute := none, ticketId := 0 }
                timers := x.timers.set 0 (.running x.cfg.raiseLimit)
                link := (y.link.queue (.prompt { code := .proceed, minute := none })).1 })
          ∧ (x.armUp = true → (t.lane l).state = .releasing ∧ (t.lane l).lastReleased = x.visit
            ∧ (t.lane l).visit = (x.visit.bind s.writable?).map (·.number))))
    ∧ (∀ n, x.visit = some n → ∀ v, s.writable? n = some v → v.stage = .atLane → v.lane = some l → s.visitsOk →
      let dest := fun d => x.sendOff.any fun o => decide (o.dest = d)
      let offers := decide (x.state = .identify ∨ x.state = .held)
        || (decide (x.state = .directed) && dest .yard)
      let places := decide (x.state = .checking ∨ x.state = .fault .boomJam)
        || (decide (x.state = .directed) && (dest .staging || dest .trouble))
      let room := decide (v.holds.length < if x.state = .identify then 5 else 6)
        || (v.holds.any fun h => decide (h.reason = .clerk)) && decide (x.state ≠ .identify ∨ v.holds.length < 6)
      let has := fun (t : State) (q : HoldReason) => (t.visit? n).any fun w => w.holds.any fun h => decide (h.reason = q)
      let begins := decide (x.request = .none ∧ x.trouble = .none ∧ s.placeCount < 16)
      let sealed := v.moves.any fun m => m.sealRec.any fun r => decide (r.window = .notOpened)
      let spare := (v.holds.any fun h => decide (h.reason = .badSeal))
        || decide ((if x.state = .identify then 2 else 1) + (v.holds.filter fun h => decide (h.reason ≠ .clerk)).length < 6)
      (places = true → ∃ t, exec (.press l .help) s = .next t
        ∧ t = { s with lanes := s.lanes.set l y, vt := t.vt } ∧ (room = true → has t .clerk = true))
      ∧ (places = false → offers = false → x.state ≠ .directed ∨ dest .back = true → only (.press l .help) y)
      ∧ (offers = true → ∃ t, exec (.press l .help) s = .next t ∧ LaneSide s t ∧ t.yd = s.yd
        ∧ (∀ j, j ≠ l → t.lane j = s.lane j)
        ∧ (room = true → (begins && sealed) = false ∨ spare = true → has t .clerk = true)
        ∧ (room = true → begins = true → sealed = true → (v.closeDrops .notOpened).anyWrong = true →
            has t .badSeal = true)
        ∧ (x.state = .directed → x.link.online = true →
            let ordered := x.sendOff.any fun o => o.raiseOrdered
            (t.lane l).output = (if ordered then x.output.withdraw (x.reads .boom) else x.output)
            ∧ (ordered = true → (t.lane l).timer .raise = .stopped))
        ∧ (x.request ≠ .none → (t.lane l).state = .held ∧ KeptEvent.offer ∈ (t.lane l).keptEvents ∧ t.td = s.td)
        ∧ (x.request = .none → x.trouble ≠ .none → (t.lane l).state = .held ∧ t.td = s.td)
        ∧ (x.request = .none → x.trouble = .none → 16 ≤ s.placeCount → (t.lane l).state = .held
            ∧ (t.lane l).trouble = .blocked ∧ t.td = { s.td with blocked := s.td.blocked ++ [l] })
        ∧ (x.request = .none → x.trouble = .none → s.placeCount < 16 → x.link.online = true →
            (t.lane l).state = .directed ∧ (t.lane l).visit = some n ∧ (t.lane l).trouble = .admitted
            ∧ (t.lane l).sendOff.any (fun o => decide (o.dest = .trouble ∧ o.ticket = .awaited)) = true
            ∧ t.td = { s.td with admissions := s.td.admissions ++ [{ lane := l, visit := n }] })))
    ∧ (∀ (num : Text) (slot : Option Nat), sealForm num = true → slot.all (fun k => decide (k = 1 ∨ k = 2)) = true →
      let who := if x.state = .checking ∨ x.state = .held ∨ x.state = .directed ∨ x.state = .fault .boomJam then x.visit
        else if x.state = .releasing then x.lastReleased else none
      (who.bind s.writable? = none → only (.sealRead l num slot) y)
      ∧ ∀ n, who = some n → ∀ v, s.writable? n = some v → s.visitsOk →
        let fate := (v.takeRead num .pedestal slot).2
        let judged := (v.takeRead num .pedestal slot).1.rejudge
        let bound := decide (v.stage = .atLane) && v.lane.any fun k => decide ((s.lane k).visit = some n)
        let after := if judged.mayCloseEarly && bound then judged.closeDrops .opened else judged
        let seals := fun u : Visit => u.moves.filterMap (·.sealRec)
        let matches? := fun u : Visit => ((seals v).zip (seals u)).any fun p =>
          decide (p.2.verdict = some .matched ∧ p.1.verdict ≠ some .matched)
        (fate = .again ∨ fate = .discarded → only (.sealRead l num slot) y)
        ∧ (fate ≠ .again → fate ≠ .discarded → (∀ k, (s.lane k).visit = some n → v.stage = .atLane ∧ v.lane = some k) →
          ∃ t, exec (.sealRead l num slot) s = .next t ∧ LaneSide s t ∧ t.yd = s.yd
          ∧ (t.visit? n).any (fun w => decide (w.moves = after.moves ∧ w.stray = after.stray)) = true
          ∧ (v.stage ≠ .released → after.anyWrong = false → after.stray = [] → matches? after = true →
              v.holds.any (fun h => decide (h.reason = .badSeal ∧ h.source = .lane)) = true →
              (t.visit? n).any (fun w => w.holds.all fun h => decide (h.reason ≠ .badSeal)) = true)))

/-- 6.2 to 6.6: the events of a link. A fault, or a gap in a message, discards what is received with its flags; a
BREAK sets BREAK and takes an ONLINE link OFFLINE, its queue, message and buffer lost, with LINK_OFFLINE; a message
begins with CTS asserted, and its end begins the next; a TICKET sent or lost orders the raise of the send-off that
waits for it. A character is taken by the receiver's state, and the last of a sound message has the effect of that
message's row (notes/assumptions/11.md); no row is given for the one that begins a break (notes/assumptions/29.md).
MESSAGE_SENT, GAP_LIMIT and BREAK_END without an occasion do nothing (notes/assumptions/8.md). -/
def Obligations.LinkEventsAct : Prop :=
  ∀ (s : State) (l : LaneId),
    let x := s.lane l
    let k := x.link
    let operated := decide (l.val < s.strap)
    let listening := operated && decide (k.rx ≠ .breakSeen)
    let hunting := fun flags : LinkMask => { k with rx := .hunt, assembly := [], flags }
    let only := fun (c : Instr) (m : Link) => exec c s = .next { s with lanes := s.lanes.set l { x with link := m } }
    let head := fun m : Link => if m.online && m.cts then
        match m.txQueue with
        | h :: rest => { m with tx := some { msg := h, sent := 0 }, txQueue := rest }
        | [] => m
      else m
    let awaits := fun id => decide (x.state = .directed)
      && x.sendOff.any fun o => decide (o.ticket = .awaited ∧ o.ticketId = id)
    let raised := fun (t : State) (m : Link) => t = { s with lanes := t.lanes, cp := t.cp }
      ∧ (∀ j, j ≠ l → t.lane j = s.lane j)
      ∧ t.lane l = { x with
          link := m, output := .asserted, boomCount := 0, timers := x.timers.set 0 (.running x.cfg.raiseLimit)
          sendOff := x.sendOff.map fun o => { o with raiseOrdered := true, ticket := .ended } }
    (∀ f, only (.messageFault l f) (if listening then hunting { k.flags with
        parity := k.flags.parity || decide (f = .parity ∨ f = .parityAndFrame)
        frame := k.flags.frame || decide (f = .frame ∨ f = .parityAndFrame)
        badMsg := k.flags.badMsg || decide (f = .length ∨ f = .kind ∨ f = .sum ∨ f = .payload) } else k))
    ∧ only (.gapLimit l) (if operated ∧ k.rx = .inMessage then hunting { k.flags with badMsg := true } else k)
    ∧ only (.breakEnd l) (if operated ∧ k.rx = .breakSeen then { k with rx := .hunt } else k)
    ∧ only (.ctsDeassert l) { k with cts := false }
    ∧ only (.ctsAssert l) (if k.tx = none then head { k with cts := true } else { k with cts := true })
    ∧ (let seen := { k with rx := .breakSeen, assembly := [], flags := { k.flags with brk := true } }
      let lost := (k.tx.toList.map (·.msg) ++ k.txQueue).flatMap (·.report .droppedOffline)
      let down := { seen with
        online := false, tx := none, txQueue := [], rxBuf := none, lastReport := lost.getLast?.or k.lastReport }
      (listening = false → exec (.lineBreak l) s = .next s)
      ∧ (listening = true → k.online = false → only (.lineBreak l) seen)
      ∧ (listening = true → k.online = true → ∃ t, exec (.lineBreak l) s = .next t ∧ LaneSide s t
        ∧ (lost = [] → t = { s with lanes := s.lanes.set l { x with link := down }, cp := t.cp })
        ∧ t.cp.flags.linkOffline = true ∧ (t.lane l).link = down
        ∧ (∀ r, lost = [r] → awaits r.id = true → x.armUp = false → raised t down)))
    ∧ ((k.tx = none → exec (.messageSent l) s = .next s)
      ∧ ∀ m, k.tx = some m →
        let sent := m.msg.report .sent
        let next := { head { k with tx := none } with lastReport := sent.getLast?.or k.lastReport }
        (sent = [] → only (.messageSent l) next)
        ∧ ∀ r, sent = [r] →
          (x.state = .fault .stopped → exec (.messageSent l) s = .next { s with
            lanes := s.lanes.set l { x with link := next, keptAnswers := x.keptAnswers ++ [.ticket r] } })
          ∧ (x.state ≠ .fault .stopped → awaits r.id = false → only (.messageSent l) next)
          ∧ (awaits r.id = true → x.armUp = false → ∃ t, exec (.messageSent l) s = .next t
            ∧ t.cp = s.cp ∧ raised t next))
    ∧ ∀ (b : Byte) (parityBit stopBit : Bool),
      let ones := ((List.finRange 8).countP fun i => b.getLsb i) + (if parityBit then 1 else 0)
      let good := decide (ones % 2 = 0) && stopBit
      let run := exec (.characterReceived l b parityBit stopBit) s
      let chars := k.assembly ++ [b]
      let len := (chars[2]?.getD 0).toNat
      (listening = false → run = .next s)
      ∧ (listening = true → good = false → only (.characterReceived l b parityBit stopBit) (hunting { k.flags with
          parity := k.flags.parity || decide (ones % 2 ≠ 0), frame := k.flags.frame || !stopBit }))
      ∧ (listening = true → good = true → k.rx = .hunt → only (.characterReceived l b parityBit stopBit)
          (if b = Config.startChar then { k with rx := .inMessage, assembly := [b] } else k))
      ∧ (listening = true → good = true → k.rx = .inMessage →
        (3 ≤ chars.length → 60 < len →
          only (.characterReceived l b parityBit stopBit) (hunting { k.flags with badMsg := true }))
        ∧ (chars.length < 3 ∨ (len ≤ 60 ∧ chars.length < 4 + len) →
            only (.characterReceived l b parityBit stopBit) { k with assembly := chars })
        ∧ (4 + len ≤ chars.length → len ≤ 60 →
          (∀ e, checkMsg chars = .error e →
            only (.characterReceived l b parityBit stopBit) (hunting { k.flags with badMsg := true }))
          ∧ ∀ m, checkMsg chars = .ok m → run = exec (match m with
              | .card t => .card l t
              | .keyedRef t => .keyedRef l t
              | .keyedContainer t slot => .keyedContainer l t slot
              | .sealRead t slot => .sealRead l t slot
              | .press key => .press l key
              | .hello => .kioskHello l) s))
end

