-- ==== Sys2Proof/Laws/State.lean ====
section
/-! SUPPORT. The small laws of the named updates: for each update of a record, what every field reads after it. -/

namespace Sys2Proof.Machine

variable (s : State)

/-! ### One lemma per update and field it does not write -/

@[simp] theorem State.setLane_tb (l : LaneId) (x : Lane) : (s.setLane l x).tb = s.tb := rfl
@[simp] theorem State.setLane_cfg (l : LaneId) (x : Lane) : (s.setLane l x).cfg = s.cfg := rfl
@[simp] theorem State.setLane_strap (l : LaneId) (x : Lane) : (s.setLane l x).strap = s.strap := rfl
@[simp] theorem State.setLane_be (l : LaneId) (x : Lane) : (s.setLane l x).be = s.be := rfl
@[simp] theorem State.setLane_vt (l : LaneId) (x : Lane) : (s.setLane l x).vt = s.vt := rfl
@[simp] theorem State.setLane_yd (l : LaneId) (x : Lane) : (s.setLane l x).yd = s.yd := rfl
@[simp] theorem State.setLane_td (l : LaneId) (x : Lane) : (s.setLane l x).td = s.td := rfl
@[simp] theorem State.setLane_stop (l : LaneId) (x : Lane) : (s.setLane l x).stop = s.stop := rfl
@[simp] theorem State.setLane_cp (l : LaneId) (x : Lane) : (s.setLane l x).cp = s.cp := rfl
@[simp] theorem State.setLane_pending (l : LaneId) (x : Lane) : (s.setLane l x).pending = s.pending := rfl

@[simp] theorem State.modLane_tb (l : LaneId) (f : Lane → Lane) : (s.modLane l f).tb = s.tb := rfl
@[simp] theorem State.modLane_cfg (l : LaneId) (f : Lane → Lane) : (s.modLane l f).cfg = s.cfg := rfl
@[simp] theorem State.modLane_strap (l : LaneId) (f : Lane → Lane) : (s.modLane l f).strap = s.strap := rfl
@[simp] theorem State.modLane_be (l : LaneId) (f : Lane → Lane) : (s.modLane l f).be = s.be := rfl
@[simp] theorem State.modLane_vt (l : LaneId) (f : Lane → Lane) : (s.modLane l f).vt = s.vt := rfl
@[simp] theorem State.modLane_yd (l : LaneId) (f : Lane → Lane) : (s.modLane l f).yd = s.yd := rfl
@[simp] theorem State.modLane_td (l : LaneId) (f : Lane → Lane) : (s.modLane l f).td = s.td := rfl
@[simp] theorem State.modLane_stop (l : LaneId) (f : Lane → Lane) : (s.modLane l f).stop = s.stop := rfl
@[simp] theorem State.modLane_cp (l : LaneId) (f : Lane → Lane) : (s.modLane l f).cp = s.cp := rfl
@[simp] theorem State.modLane_pending (l : LaneId) (f : Lane → Lane) : (s.modLane l f).pending = s.pending := rfl

@[simp] theorem State.startTimer_tb (l : LaneId) (t : TimerId) (n : Nat) : (s.startTimer l t n).tb = s.tb := rfl
@[simp] theorem State.startTimer_cfg (l : LaneId) (t : TimerId) (n : Nat) : (s.startTimer l t n).cfg = s.cfg := rfl
@[simp] theorem State.startTimer_strap (l : LaneId) (t : TimerId) (n : Nat) : (s.startTimer l t n).strap = s.strap := rfl
@[simp] theorem State.startTimer_be (l : LaneId) (t : TimerId) (n : Nat) : (s.startTimer l t n).be = s.be := rfl
@[simp] theorem State.startTimer_vt (l : LaneId) (t : TimerId) (n : Nat) : (s.startTimer l t n).vt = s.vt := rfl
@[simp] theorem State.startTimer_yd (l : LaneId) (t : TimerId) (n : Nat) : (s.startTimer l t n).yd = s.yd := rfl
@[simp] theorem State.startTimer_td (l : LaneId) (t : TimerId) (n : Nat) : (s.startTimer l t n).td = s.td := rfl
@[simp] theorem State.startTimer_stop (l : LaneId) (t : TimerId) (n : Nat) : (s.startTimer l t n).stop = s.stop := rfl
@[simp] theorem State.startTimer_cp (l : LaneId) (t : TimerId) (n : Nat) : (s.startTimer l t n).cp = s.cp := rfl
@[simp] theorem State.startTimer_pending (l : LaneId) (t : TimerId) (n : Nat) : (s.startTimer l t n).pending = s.pending := rfl

@[simp] theorem State.stopTimer_tb (l : LaneId) (t : TimerId) : (s.stopTimer l t).tb = s.tb := rfl
@[simp] theorem State.stopTimer_cfg (l : LaneId) (t : TimerId) : (s.stopTimer l t).cfg = s.cfg := rfl
@[simp] theorem State.stopTimer_strap (l : LaneId) (t : TimerId) : (s.stopTimer l t).strap = s.strap := rfl
@[simp] theorem State.stopTimer_be (l : LaneId) (t : TimerId) : (s.stopTimer l t).be = s.be := rfl
@[simp] theorem State.stopTimer_vt (l : LaneId) (t : TimerId) : (s.stopTimer l t).vt = s.vt := rfl
@[simp] theorem State.stopTimer_yd (l : LaneId) (t : TimerId) : (s.stopTimer l t).yd = s.yd := rfl
@[simp] theorem State.stopTimer_td (l : LaneId) (t : TimerId) : (s.stopTimer l t).td = s.td := rfl
@[simp] theorem State.stopTimer_stop (l : LaneId) (t : TimerId) : (s.stopTimer l t).stop = s.stop := rfl
@[simp] theorem State.stopTimer_cp (l : LaneId) (t : TimerId) : (s.stopTimer l t).cp = s.cp := rfl
@[simp] theorem State.stopTimer_pending (l : LaneId) (t : TimerId) : (s.stopTimer l t).pending = s.pending := rfl

@[simp] theorem State.orderWithdrawal_tb (l : LaneId) : (s.orderWithdrawal l).tb = s.tb := rfl
@[simp] theorem State.orderWithdrawal_cfg (l : LaneId) : (s.orderWithdrawal l).cfg = s.cfg := rfl
@[simp] theorem State.orderWithdrawal_strap (l : LaneId) : (s.orderWithdrawal l).strap = s.strap := rfl
@[simp] theorem State.orderWithdrawal_be (l : LaneId) : (s.orderWithdrawal l).be = s.be := rfl
@[simp] theorem State.orderWithdrawal_vt (l : LaneId) : (s.orderWithdrawal l).vt = s.vt := rfl
@[simp] theorem State.orderWithdrawal_yd (l : LaneId) : (s.orderWithdrawal l).yd = s.yd := rfl
@[simp] theorem State.orderWithdrawal_td (l : LaneId) : (s.orderWithdrawal l).td = s.td := rfl
@[simp] theorem State.orderWithdrawal_stop (l : LaneId) : (s.orderWithdrawal l).stop = s.stop := rfl
@[simp] theorem State.orderWithdrawal_cp (l : LaneId) : (s.orderWithdrawal l).cp = s.cp := rfl
@[simp] theorem State.orderWithdrawal_pending (l : LaneId) : (s.orderWithdrawal l).pending = s.pending := rfl

@[simp] theorem State.modLink_tb (l : LaneId) (f : Link → Link) : (s.modLink l f).tb = s.tb := rfl
@[simp] theorem State.modLink_cfg (l : LaneId) (f : Link → Link) : (s.modLink l f).cfg = s.cfg := rfl
@[simp] theorem State.modLink_strap (l : LaneId) (f : Link → Link) : (s.modLink l f).strap = s.strap := rfl
@[simp] theorem State.modLink_be (l : LaneId) (f : Link → Link) : (s.modLink l f).be = s.be := rfl
@[simp] theorem State.modLink_vt (l : LaneId) (f : Link → Link) : (s.modLink l f).vt = s.vt := rfl
@[simp] theorem State.modLink_yd (l : LaneId) (f : Link → Link) : (s.modLink l f).yd = s.yd := rfl
@[simp] theorem State.modLink_td (l : LaneId) (f : Link → Link) : (s.modLink l f).td = s.td := rfl
@[simp] theorem State.modLink_stop (l : LaneId) (f : Link → Link) : (s.modLink l f).stop = s.stop := rfl
@[simp] theorem State.modLink_cp (l : LaneId) (f : Link → Link) : (s.modLink l f).cp = s.cp := rfl
@[simp] theorem State.modLink_pending (l : LaneId) (f : Link → Link) : (s.modLink l f).pending = s.pending := rfl

@[simp] theorem State.setLinkFlags_tb (l : LaneId) (m : LinkMask) : (s.setLinkFlags l m).tb = s.tb := rfl
@[simp] theorem State.setLinkFlags_cfg (l : LaneId) (m : LinkMask) : (s.setLinkFlags l m).cfg = s.cfg := rfl
@[simp] theorem State.setLinkFlags_strap (l : LaneId) (m : LinkMask) : (s.setLinkFlags l m).strap = s.strap := rfl
@[simp] theorem State.setLinkFlags_be (l : LaneId) (m : LinkMask) : (s.setLinkFlags l m).be = s.be := rfl
@[simp] theorem State.setLinkFlags_vt (l : LaneId) (m : LinkMask) : (s.setLinkFlags l m).vt = s.vt := rfl
@[simp] theorem State.setLinkFlags_yd (l : LaneId) (m : LinkMask) : (s.setLinkFlags l m).yd = s.yd := rfl
@[simp] theorem State.setLinkFlags_td (l : LaneId) (m : LinkMask) : (s.setLinkFlags l m).td = s.td := rfl
@[simp] theorem State.setLinkFlags_stop (l : LaneId) (m : LinkMask) : (s.setLinkFlags l m).stop = s.stop := rfl
@[simp] theorem State.setLinkFlags_cp (l : LaneId) (m : LinkMask) : (s.setLinkFlags l m).cp = s.cp := rfl
@[simp] theorem State.setLinkFlags_pending (l : LaneId) (m : LinkMask) : (s.setLinkFlags l m).pending = s.pending := rfl

@[simp] theorem State.queueMsg_tb (l : LaneId) (m : OutMsg) : (s.queueMsg l m).tb = s.tb := rfl
@[simp] theorem State.queueMsg_cfg (l : LaneId) (m : OutMsg) : (s.queueMsg l m).cfg = s.cfg := rfl
@[simp] theorem State.queueMsg_strap (l : LaneId) (m : OutMsg) : (s.queueMsg l m).strap = s.strap := rfl
@[simp] theorem State.queueMsg_be (l : LaneId) (m : OutMsg) : (s.queueMsg l m).be = s.be := rfl
@[simp] theorem State.queueMsg_vt (l : LaneId) (m : OutMsg) : (s.queueMsg l m).vt = s.vt := rfl
@[simp] theorem State.queueMsg_yd (l : LaneId) (m : OutMsg) : (s.queueMsg l m).yd = s.yd := rfl
@[simp] theorem State.queueMsg_td (l : LaneId) (m : OutMsg) : (s.queueMsg l m).td = s.td := rfl
@[simp] theorem State.queueMsg_stop (l : LaneId) (m : OutMsg) : (s.queueMsg l m).stop = s.stop := rfl
@[simp] theorem State.queueMsg_cp (l : LaneId) (m : OutMsg) : (s.queueMsg l m).cp = s.cp := rfl
@[simp] theorem State.queueMsg_pending (l : LaneId) (m : OutMsg) : (s.queueMsg l m).pending = s.pending := rfl

@[simp] theorem State.queuePrompt_tb (l : LaneId) (c : PromptCode) (m : Option Nat) : (s.queuePrompt l c m).tb = s.tb := rfl
@[simp] theorem State.queuePrompt_cfg (l : LaneId) (c : PromptCode) (m : Option Nat) : (s.queuePrompt l c m).cfg = s.cfg := rfl
@[simp] theorem State.queuePrompt_strap (l : LaneId) (c : PromptCode) (m : Option Nat) : (s.queuePrompt l c m).strap = s.strap := rfl
@[simp] theorem State.queuePrompt_be (l : LaneId) (c : PromptCode) (m : Option Nat) : (s.queuePrompt l c m).be = s.be := rfl
@[simp] theorem State.queuePrompt_vt (l : LaneId) (c : PromptCode) (m : Option Nat) : (s.queuePrompt l c m).vt = s.vt := rfl
@[simp] theorem State.queuePrompt_yd (l : LaneId) (c : PromptCode) (m : Option Nat) : (s.queuePrompt l c m).yd = s.yd := rfl
@[simp] theorem State.queuePrompt_td (l : LaneId) (c : PromptCode) (m : Option Nat) : (s.queuePrompt l c m).td = s.td := rfl
@[simp] theorem State.queuePrompt_stop (l : LaneId) (c : PromptCode) (m : Option Nat) : (s.queuePrompt l c m).stop = s.stop := rfl
@[simp] theorem State.queuePrompt_cp (l : LaneId) (c : PromptCode) (m : Option Nat) : (s.queuePrompt l c m).cp = s.cp := rfl
@[simp] theorem State.queuePrompt_pending (l : LaneId) (c : PromptCode) (m : Option Nat) : (s.queuePrompt l c m).pending = s.pending := rfl

@[simp] theorem State.queuePresent_tb (l : LaneId) : (s.queuePresent l).tb = s.tb := rfl
@[simp] theorem State.queuePresent_cfg (l : LaneId) : (s.queuePresent l).cfg = s.cfg := rfl
@[simp] theorem State.queuePresent_strap (l : LaneId) : (s.queuePresent l).strap = s.strap := rfl
@[simp] theorem State.queuePresent_be (l : LaneId) : (s.queuePresent l).be = s.be := rfl
@[simp] theorem State.queuePresent_vt (l : LaneId) : (s.queuePresent l).vt = s.vt := rfl
@[simp] theorem State.queuePresent_yd (l : LaneId) : (s.queuePresent l).yd = s.yd := rfl
@[simp] theorem State.queuePresent_td (l : LaneId) : (s.queuePresent l).td = s.td := rfl
@[simp] theorem State.queuePresent_stop (l : LaneId) : (s.queuePresent l).stop = s.stop := rfl
@[simp] theorem State.queuePresent_cp (l : LaneId) : (s.queuePresent l).cp = s.cp := rfl
@[simp] theorem State.queuePresent_pending (l : LaneId) : (s.queuePresent l).pending = s.pending := rfl

@[simp] theorem State.keepAnswer_tb (l : LaneId) (a : KeptAnswer) : (s.keepAnswer l a).tb = s.tb := rfl
@[simp] theorem State.keepAnswer_cfg (l : LaneId) (a : KeptAnswer) : (s.keepAnswer l a).cfg = s.cfg := rfl
@[simp] theorem State.keepAnswer_strap (l : LaneId) (a : KeptAnswer) : (s.keepAnswer l a).strap = s.strap := rfl
@[simp] theorem State.keepAnswer_be (l : LaneId) (a : KeptAnswer) : (s.keepAnswer l a).be = s.be := rfl
@[simp] theorem State.keepAnswer_vt (l : LaneId) (a : KeptAnswer) : (s.keepAnswer l a).vt = s.vt := rfl
@[simp] theorem State.keepAnswer_yd (l : LaneId) (a : KeptAnswer) : (s.keepAnswer l a).yd = s.yd := rfl
@[simp] theorem State.keepAnswer_td (l : LaneId) (a : KeptAnswer) : (s.keepAnswer l a).td = s.td := rfl
@[simp] theorem State.keepAnswer_stop (l : LaneId) (a : KeptAnswer) : (s.keepAnswer l a).stop = s.stop := rfl
@[simp] theorem State.keepAnswer_cp (l : LaneId) (a : KeptAnswer) : (s.keepAnswer l a).cp = s.cp := rfl
@[simp] theorem State.keepAnswer_pending (l : LaneId) (a : KeptAnswer) : (s.keepAnswer l a).pending = s.pending := rfl

@[simp] theorem State.owe_tb (l : LaneId) (o : Owed) : (s.owe l o).tb = s.tb := rfl
@[simp] theorem State.owe_cfg (l : LaneId) (o : Owed) : (s.owe l o).cfg = s.cfg := rfl
@[simp] theorem State.owe_strap (l : LaneId) (o : Owed) : (s.owe l o).strap = s.strap := rfl
@[simp] theorem State.owe_be (l : LaneId) (o : Owed) : (s.owe l o).be = s.be := rfl
@[simp] theorem State.owe_vt (l : LaneId) (o : Owed) : (s.owe l o).vt = s.vt := rfl
@[simp] theorem State.owe_yd (l : LaneId) (o : Owed) : (s.owe l o).yd = s.yd := rfl
@[simp] theorem State.owe_td (l : LaneId) (o : Owed) : (s.owe l o).td = s.td := rfl
@[simp] theorem State.owe_stop (l : LaneId) (o : Owed) : (s.owe l o).stop = s.stop := rfl
@[simp] theorem State.owe_cp (l : LaneId) (o : Owed) : (s.owe l o).cp = s.cp := rfl
@[simp] theorem State.owe_pending (l : LaneId) (o : Owed) : (s.owe l o).pending = s.pending := rfl

@[simp] theorem State.payOwed_tb (l : LaneId) : (s.payOwed l).tb = s.tb := rfl
@[simp] theorem State.payOwed_cfg (l : LaneId) : (s.payOwed l).cfg = s.cfg := rfl
@[simp] theorem State.payOwed_strap (l : LaneId) : (s.payOwed l).strap = s.strap := rfl
@[simp] theorem State.payOwed_be (l : LaneId) : (s.payOwed l).be = s.be := rfl
@[simp] theorem State.payOwed_vt (l : LaneId) : (s.payOwed l).vt = s.vt := rfl
@[simp] theorem State.payOwed_yd (l : LaneId) : (s.payOwed l).yd = s.yd := rfl
@[simp] theorem State.payOwed_td (l : LaneId) : (s.payOwed l).td = s.td := rfl
@[simp] theorem State.payOwed_stop (l : LaneId) : (s.payOwed l).stop = s.stop := rfl
@[simp] theorem State.payOwed_cp (l : LaneId) : (s.payOwed l).cp = s.cp := rfl
@[simp] theorem State.payOwed_pending (l : LaneId) : (s.payOwed l).pending = s.pending := rfl

@[simp] theorem State.startRequest_tb (l : LaneId) (r : Flight) : (s.startRequest l r).tb = s.tb := rfl
@[simp] theorem State.startRequest_cfg (l : LaneId) (r : Flight) : (s.startRequest l r).cfg = s.cfg := rfl
@[simp] theorem State.startRequest_strap (l : LaneId) (r : Flight) : (s.startRequest l r).strap = s.strap := rfl
@[simp] theorem State.startRequest_be (l : LaneId) (r : Flight) : (s.startRequest l r).be = s.be := rfl
@[simp] theorem State.startRequest_vt (l : LaneId) (r : Flight) : (s.startRequest l r).vt = s.vt := rfl
@[simp] theorem State.startRequest_yd (l : LaneId) (r : Flight) : (s.startRequest l r).yd = s.yd := rfl
@[simp] theorem State.startRequest_td (l : LaneId) (r : Flight) : (s.startRequest l r).td = s.td := rfl
@[simp] theorem State.startRequest_stop (l : LaneId) (r : Flight) : (s.startRequest l r).stop = s.stop := rfl
@[simp] theorem State.startRequest_cp (l : LaneId) (r : Flight) : (s.startRequest l r).cp = s.cp := rfl
@[simp] theorem State.startRequest_pending (l : LaneId) (r : Flight) : (s.startRequest l r).pending = s.pending := rfl

@[simp] theorem State.dropHeldMessage_tb (l : LaneId) : (s.dropHeldMessage l).tb = s.tb := rfl
@[simp] theorem State.dropHeldMessage_cfg (l : LaneId) : (s.dropHeldMessage l).cfg = s.cfg := rfl
@[simp] theorem State.dropHeldMessage_strap (l : LaneId) : (s.dropHeldMessage l).strap = s.strap := rfl
@[simp] theorem State.dropHeldMessage_be (l : LaneId) : (s.dropHeldMessage l).be = s.be := rfl
@[simp] theorem State.dropHeldMessage_vt (l : LaneId) : (s.dropHeldMessage l).vt = s.vt := rfl
@[simp] theorem State.dropHeldMessage_yd (l : LaneId) : (s.dropHeldMessage l).yd = s.yd := rfl
@[simp] theorem State.dropHeldMessage_td (l : LaneId) : (s.dropHeldMessage l).td = s.td := rfl
@[simp] theorem State.dropHeldMessage_stop (l : LaneId) : (s.dropHeldMessage l).stop = s.stop := rfl
@[simp] theorem State.dropHeldMessage_cp (l : LaneId) : (s.dropHeldMessage l).cp = s.cp := rfl
@[simp] theorem State.dropHeldMessage_pending (l : LaneId) : (s.dropHeldMessage l).pending = s.pending := rfl

@[simp] theorem State.modVisit_tb (n : Nat) (f : Visit → Visit) : (s.modVisit n f).tb = s.tb := rfl
@[simp] theorem State.modVisit_cfg (n : Nat) (f : Visit → Visit) : (s.modVisit n f).cfg = s.cfg := rfl
@[simp] theorem State.modVisit_strap (n : Nat) (f : Visit → Visit) : (s.modVisit n f).strap = s.strap := rfl
@[simp] theorem State.modVisit_be (n : Nat) (f : Visit → Visit) : (s.modVisit n f).be = s.be := rfl
@[simp] theorem State.modVisit_lanes (n : Nat) (f : Visit → Visit) : (s.modVisit n f).lanes = s.lanes := rfl
@[simp] theorem State.modVisit_yd (n : Nat) (f : Visit → Visit) : (s.modVisit n f).yd = s.yd := rfl
@[simp] theorem State.modVisit_td (n : Nat) (f : Visit → Visit) : (s.modVisit n f).td = s.td := rfl
@[simp] theorem State.modVisit_stop (n : Nat) (f : Visit → Visit) : (s.modVisit n f).stop = s.stop := rfl
@[simp] theorem State.modVisit_cp (n : Nat) (f : Visit → Visit) : (s.modVisit n f).cp = s.cp := rfl
@[simp] theorem State.modVisit_pending (n : Nat) (f : Visit → Visit) : (s.modVisit n f).pending = s.pending := rfl

@[simp] theorem State.leaveSlotWait_tb (l : LaneId) : (s.leaveSlotWait l).tb = s.tb := rfl
@[simp] theorem State.leaveSlotWait_cfg (l : LaneId) : (s.leaveSlotWait l).cfg = s.cfg := rfl
@[simp] theorem State.leaveSlotWait_strap (l : LaneId) : (s.leaveSlotWait l).strap = s.strap := rfl
@[simp] theorem State.leaveSlotWait_be (l : LaneId) : (s.leaveSlotWait l).be = s.be := rfl
@[simp] theorem State.leaveSlotWait_lanes (l : LaneId) : (s.leaveSlotWait l).lanes = s.lanes := rfl
@[simp] theorem State.leaveSlotWait_yd (l : LaneId) : (s.leaveSlotWait l).yd = s.yd := rfl
@[simp] theorem State.leaveSlotWait_td (l : LaneId) : (s.leaveSlotWait l).td = s.td := rfl
@[simp] theorem State.leaveSlotWait_stop (l : LaneId) : (s.leaveSlotWait l).stop = s.stop := rfl
@[simp] theorem State.leaveSlotWait_cp (l : LaneId) : (s.leaveSlotWait l).cp = s.cp := rfl
@[simp] theorem State.leaveSlotWait_pending (l : LaneId) : (s.leaveSlotWait l).pending = s.pending := rfl

@[simp] theorem State.setDesk_tb (d : DeskId) (x : Desk) : (s.setDesk d x).tb = s.tb := rfl
@[simp] theorem State.setDesk_cfg (d : DeskId) (x : Desk) : (s.setDesk d x).cfg = s.cfg := rfl
@[simp] theorem State.setDesk_strap (d : DeskId) (x : Desk) : (s.setDesk d x).strap = s.strap := rfl
@[simp] theorem State.setDesk_be (d : DeskId) (x : Desk) : (s.setDesk d x).be = s.be := rfl
@[simp] theorem State.setDesk_vt (d : DeskId) (x : Desk) : (s.setDesk d x).vt = s.vt := rfl
@[simp] theorem State.setDesk_lanes (d : DeskId) (x : Desk) : (s.setDesk d x).lanes = s.lanes := rfl
@[simp] theorem State.setDesk_yd (d : DeskId) (x : Desk) : (s.setDesk d x).yd = s.yd := rfl
@[simp] theorem State.setDesk_stop (d : DeskId) (x : Desk) : (s.setDesk d x).stop = s.stop := rfl
@[simp] theorem State.setDesk_cp (d : DeskId) (x : Desk) : (s.setDesk d x).cp = s.cp := rfl
@[simp] theorem State.setDesk_pending (d : DeskId) (x : Desk) : (s.setDesk d x).pending = s.pending := rfl

@[simp] theorem State.addAdmission_tb (l : LaneId) (n : Nat) : (s.addAdmission l n).tb = s.tb := rfl
@[simp] theorem State.addAdmission_cfg (l : LaneId) (n : Nat) : (s.addAdmission l n).cfg = s.cfg := rfl
@[simp] theorem State.addAdmission_strap (l : LaneId) (n : Nat) : (s.addAdmission l n).strap = s.strap := rfl
@[simp] theorem State.addAdmission_be (l : LaneId) (n : Nat) : (s.addAdmission l n).be = s.be := rfl
@[simp] theorem State.addAdmission_vt (l : LaneId) (n : Nat) : (s.addAdmission l n).vt = s.vt := rfl
@[simp] theorem State.addAdmission_lanes (l : LaneId) (n : Nat) : (s.addAdmission l n).lanes = s.lanes := rfl
@[simp] theorem State.addAdmission_yd (l : LaneId) (n : Nat) : (s.addAdmission l n).yd = s.yd := rfl
@[simp] theorem State.addAdmission_stop (l : LaneId) (n : Nat) : (s.addAdmission l n).stop = s.stop := rfl
@[simp] theorem State.addAdmission_cp (l : LaneId) (n : Nat) : (s.addAdmission l n).cp = s.cp := rfl
@[simp] theorem State.addAdmission_pending (l : LaneId) (n : Nat) : (s.addAdmission l n).pending = s.pending := rfl

@[simp] theorem State.leaveWaitList_tb (n : Nat) : (s.leaveWaitList n).tb = s.tb := rfl
@[simp] theorem State.leaveWaitList_cfg (n : Nat) : (s.leaveWaitList n).cfg = s.cfg := rfl
@[simp] theorem State.leaveWaitList_strap (n : Nat) : (s.leaveWaitList n).strap = s.strap := rfl
@[simp] theorem State.leaveWaitList_be (n : Nat) : (s.leaveWaitList n).be = s.be := rfl
@[simp] theorem State.leaveWaitList_vt (n : Nat) : (s.leaveWaitList n).vt = s.vt := rfl
@[simp] theorem State.leaveWaitList_lanes (n : Nat) : (s.leaveWaitList n).lanes = s.lanes := rfl
@[simp] theorem State.leaveWaitList_td (n : Nat) : (s.leaveWaitList n).td = s.td := rfl
@[simp] theorem State.leaveWaitList_stop (n : Nat) : (s.leaveWaitList n).stop = s.stop := rfl
@[simp] theorem State.leaveWaitList_cp (n : Nat) : (s.leaveWaitList n).cp = s.cp := rfl
@[simp] theorem State.leaveWaitList_pending (n : Nat) : (s.leaveWaitList n).pending = s.pending := rfl

@[simp] theorem State.modWindow_tb (n : Nat) (f : Window → Window) : (s.modWindow n f).tb = s.tb := rfl
@[simp] theorem State.modWindow_cfg (n : Nat) (f : Window → Window) : (s.modWindow n f).cfg = s.cfg := rfl
@[simp] theorem State.modWindow_strap (n : Nat) (f : Window → Window) : (s.modWindow n f).strap = s.strap := rfl
@[simp] theorem State.modWindow_vt (n : Nat) (f : Window → Window) : (s.modWindow n f).vt = s.vt := rfl
@[simp] theorem State.modWindow_lanes (n : Nat) (f : Window → Window) : (s.modWindow n f).lanes = s.lanes := rfl
@[simp] theorem State.modWindow_yd (n : Nat) (f : Window → Window) : (s.modWindow n f).yd = s.yd := rfl
@[simp] theorem State.modWindow_td (n : Nat) (f : Window → Window) : (s.modWindow n f).td = s.td := rfl
@[simp] theorem State.modWindow_stop (n : Nat) (f : Window → Window) : (s.modWindow n f).stop = s.stop := rfl
@[simp] theorem State.modWindow_cp (n : Nat) (f : Window → Window) : (s.modWindow n f).cp = s.cp := rfl
@[simp] theorem State.modWindow_pending (n : Nat) (f : Window → Window) : (s.modWindow n f).pending = s.pending := rfl

@[simp] theorem State.modBooking_tb (r : Text) (f : Booking → Booking) : (s.modBooking r f).tb = s.tb := rfl
@[simp] theorem State.modBooking_cfg (r : Text) (f : Booking → Booking) : (s.modBooking r f).cfg = s.cfg := rfl
@[simp] theorem State.modBooking_strap (r : Text) (f : Booking → Booking) : (s.modBooking r f).strap = s.strap := rfl
@[simp] theorem State.modBooking_vt (r : Text) (f : Booking → Booking) : (s.modBooking r f).vt = s.vt := rfl
@[simp] theorem State.modBooking_lanes (r : Text) (f : Booking → Booking) : (s.modBooking r f).lanes = s.lanes := rfl
@[simp] theorem State.modBooking_yd (r : Text) (f : Booking → Booking) : (s.modBooking r f).yd = s.yd := rfl
@[simp] theorem State.modBooking_td (r : Text) (f : Booking → Booking) : (s.modBooking r f).td = s.td := rfl
@[simp] theorem State.modBooking_stop (r : Text) (f : Booking → Booking) : (s.modBooking r f).stop = s.stop := rfl
@[simp] theorem State.modBooking_cp (r : Text) (f : Booking → Booking) : (s.modBooking r f).cp = s.cp := rfl
@[simp] theorem State.modBooking_pending (r : Text) (f : Booking → Booking) : (s.modBooking r f).pending = s.pending := rfl

@[simp] theorem State.setCarrier_tb (c : Text) (st : CarrierState) : (s.setCarrier c st).tb = s.tb := rfl
@[simp] theorem State.setCarrier_cfg (c : Text) (st : CarrierState) : (s.setCarrier c st).cfg = s.cfg := rfl
@[simp] theorem State.setCarrier_strap (c : Text) (st : CarrierState) : (s.setCarrier c st).strap = s.strap := rfl
@[simp] theorem State.setCarrier_vt (c : Text) (st : CarrierState) : (s.setCarrier c st).vt = s.vt := rfl
@[simp] theorem State.setCarrier_lanes (c : Text) (st : CarrierState) : (s.setCarrier c st).lanes = s.lanes := rfl
@[simp] theorem State.setCarrier_yd (c : Text) (st : CarrierState) : (s.setCarrier c st).yd = s.yd := rfl
@[simp] theorem State.setCarrier_td (c : Text) (st : CarrierState) : (s.setCarrier c st).td = s.td := rfl
@[simp] theorem State.setCarrier_stop (c : Text) (st : CarrierState) : (s.setCarrier c st).stop = s.stop := rfl
@[simp] theorem State.setCarrier_cp (c : Text) (st : CarrierState) : (s.setCarrier c st).cp = s.cp := rfl
@[simp] theorem State.setCarrier_pending (c : Text) (st : CarrierState) : (s.setCarrier c st).pending = s.pending := rfl

@[simp] theorem State.servePort_tb : s.servePort.tb = s.tb := rfl
@[simp] theorem State.servePort_cfg : s.servePort.cfg = s.cfg := rfl
@[simp] theorem State.servePort_strap : s.servePort.strap = s.strap := rfl
@[simp] theorem State.servePort_vt : s.servePort.vt = s.vt := rfl
@[simp] theorem State.servePort_lanes : s.servePort.lanes = s.lanes := rfl
@[simp] theorem State.servePort_yd : s.servePort.yd = s.yd := rfl
@[simp] theorem State.servePort_td : s.servePort.td = s.td := rfl
@[simp] theorem State.servePort_stop : s.servePort.stop = s.stop := rfl
@[simp] theorem State.servePort_cp : s.servePort.cp = s.cp := rfl
@[simp] theorem State.servePort_pending : s.servePort.pending = s.pending := rfl

@[simp] theorem State.serveLane_tb (l : LaneId) : (s.serveLane l).tb = s.tb := rfl
@[simp] theorem State.serveLane_cfg (l : LaneId) : (s.serveLane l).cfg = s.cfg := rfl
@[simp] theorem State.serveLane_strap (l : LaneId) : (s.serveLane l).strap = s.strap := rfl
@[simp] theorem State.serveLane_vt (l : LaneId) : (s.serveLane l).vt = s.vt := rfl
@[simp] theorem State.serveLane_lanes (l : LaneId) : (s.serveLane l).lanes = s.lanes := rfl
@[simp] theorem State.serveLane_yd (l : LaneId) : (s.serveLane l).yd = s.yd := rfl
@[simp] theorem State.serveLane_td (l : LaneId) : (s.serveLane l).td = s.td := rfl
@[simp] theorem State.serveLane_stop (l : LaneId) : (s.serveLane l).stop = s.stop := rfl
@[simp] theorem State.serveLane_cp (l : LaneId) : (s.serveLane l).cp = s.cp := rfl
@[simp] theorem State.serveLane_pending (l : LaneId) : (s.serveLane l).pending = s.pending := rfl

@[simp] theorem State.setFlags_tb (f : GateMask → GateMask) : (s.setFlags f).tb = s.tb := rfl
@[simp] theorem State.setFlags_cfg (f : GateMask → GateMask) : (s.setFlags f).cfg = s.cfg := rfl
@[simp] theorem State.setFlags_strap (f : GateMask → GateMask) : (s.setFlags f).strap = s.strap := rfl
@[simp] theorem State.setFlags_be (f : GateMask → GateMask) : (s.setFlags f).be = s.be := rfl
@[simp] theorem State.setFlags_vt (f : GateMask → GateMask) : (s.setFlags f).vt = s.vt := rfl
@[simp] theorem State.setFlags_lanes (f : GateMask → GateMask) : (s.setFlags f).lanes = s.lanes := rfl
@[simp] theorem State.setFlags_yd (f : GateMask → GateMask) : (s.setFlags f).yd = s.yd := rfl
@[simp] theorem State.setFlags_td (f : GateMask → GateMask) : (s.setFlags f).td = s.td := rfl
@[simp] theorem State.setFlags_stop (f : GateMask → GateMask) : (s.setFlags f).stop = s.stop := rfl
@[simp] theorem State.setFlags_pending (f : GateMask → GateMask) : (s.setFlags f).pending = s.pending := rfl

@[simp] theorem State.flagLaneFault_tb : s.flagLaneFault.tb = s.tb := rfl
@[simp] theorem State.flagLaneFault_cfg : s.flagLaneFault.cfg = s.cfg := rfl
@[simp] theorem State.flagLaneFault_strap : s.flagLaneFault.strap = s.strap := rfl
@[simp] theorem State.flagLaneFault_be : s.flagLaneFault.be = s.be := rfl
@[simp] theorem State.flagLaneFault_vt : s.flagLaneFault.vt = s.vt := rfl
@[simp] theorem State.flagLaneFault_lanes : s.flagLaneFault.lanes = s.lanes := rfl
@[simp] theorem State.flagLaneFault_yd : s.flagLaneFault.yd = s.yd := rfl
@[simp] theorem State.flagLaneFault_td : s.flagLaneFault.td = s.td := rfl
@[simp] theorem State.flagLaneFault_stop : s.flagLaneFault.stop = s.stop := rfl
@[simp] theorem State.flagLaneFault_pending : s.flagLaneFault.pending = s.pending := rfl

@[simp] theorem State.flagLinkOffline_tb : s.flagLinkOffline.tb = s.tb := rfl
@[simp] theorem State.flagLinkOffline_cfg : s.flagLinkOffline.cfg = s.cfg := rfl
@[simp] theorem State.flagLinkOffline_strap : s.flagLinkOffline.strap = s.strap := rfl
@[simp] theorem State.flagLinkOffline_be : s.flagLinkOffline.be = s.be := rfl
@[simp] theorem State.flagLinkOffline_vt : s.flagLinkOffline.vt = s.vt := rfl
@[simp] theorem State.flagLinkOffline_lanes : s.flagLinkOffline.lanes = s.lanes := rfl
@[simp] theorem State.flagLinkOffline_yd : s.flagLinkOffline.yd = s.yd := rfl
@[simp] theorem State.flagLinkOffline_td : s.flagLinkOffline.td = s.td := rfl
@[simp] theorem State.flagLinkOffline_stop : s.flagLinkOffline.stop = s.stop := rfl
@[simp] theorem State.flagLinkOffline_pending : s.flagLinkOffline.pending = s.pending := rfl

@[simp] theorem State.flagSyncReject_tb : s.flagSyncReject.tb = s.tb := rfl
@[simp] theorem State.flagSyncReject_cfg : s.flagSyncReject.cfg = s.cfg := rfl
@[simp] theorem State.flagSyncReject_strap : s.flagSyncReject.strap = s.strap := rfl
@[simp] theorem State.flagSyncReject_be : s.flagSyncReject.be = s.be := rfl
@[simp] theorem State.flagSyncReject_vt : s.flagSyncReject.vt = s.vt := rfl
@[simp] theorem State.flagSyncReject_lanes : s.flagSyncReject.lanes = s.lanes := rfl
@[simp] theorem State.flagSyncReject_yd : s.flagSyncReject.yd = s.yd := rfl
@[simp] theorem State.flagSyncReject_td : s.flagSyncReject.td = s.td := rfl
@[simp] theorem State.flagSyncReject_stop : s.flagSyncReject.stop = s.stop := rfl
@[simp] theorem State.flagSyncReject_pending : s.flagSyncReject.pending = s.pending := rfl

@[simp] theorem State.flagStopAll_tb : s.flagStopAll.tb = s.tb := rfl
@[simp] theorem State.flagStopAll_cfg : s.flagStopAll.cfg = s.cfg := rfl
@[simp] theorem State.flagStopAll_strap : s.flagStopAll.strap = s.strap := rfl
@[simp] theorem State.flagStopAll_be : s.flagStopAll.be = s.be := rfl
@[simp] theorem State.flagStopAll_vt : s.flagStopAll.vt = s.vt := rfl
@[simp] theorem State.flagStopAll_lanes : s.flagStopAll.lanes = s.lanes := rfl
@[simp] theorem State.flagStopAll_yd : s.flagStopAll.yd = s.yd := rfl
@[simp] theorem State.flagStopAll_td : s.flagStopAll.td = s.td := rfl
@[simp] theorem State.flagStopAll_stop : s.flagStopAll.stop = s.stop := rfl
@[simp] theorem State.flagStopAll_pending : s.flagStopAll.pending = s.pending := rfl

@[simp] theorem State.flagPortFault_tb (c : PortFaultCause) : (s.flagPortFault c).tb = s.tb := rfl
@[simp] theorem State.flagPortFault_cfg (c : PortFaultCause) : (s.flagPortFault c).cfg = s.cfg := rfl
@[simp] theorem State.flagPortFault_strap (c : PortFaultCause) : (s.flagPortFault c).strap = s.strap := rfl
@[simp] theorem State.flagPortFault_be (c : PortFaultCause) : (s.flagPortFault c).be = s.be := rfl
@[simp] theorem State.flagPortFault_vt (c : PortFaultCause) : (s.flagPortFault c).vt = s.vt := rfl
@[simp] theorem State.flagPortFault_lanes (c : PortFaultCause) : (s.flagPortFault c).lanes = s.lanes := rfl
@[simp] theorem State.flagPortFault_yd (c : PortFaultCause) : (s.flagPortFault c).yd = s.yd := rfl
@[simp] theorem State.flagPortFault_td (c : PortFaultCause) : (s.flagPortFault c).td = s.td := rfl
@[simp] theorem State.flagPortFault_stop (c : PortFaultCause) : (s.flagPortFault c).stop = s.stop := rfl
@[simp] theorem State.flagPortFault_pending (c : PortFaultCause) : (s.flagPortFault c).pending = s.pending := rfl

@[simp] theorem State.respond_tb (tag : Byte) (st : Status) (p : List Field) : (s.respond tag st p).tb = s.tb := rfl
@[simp] theorem State.respond_cfg (tag : Byte) (st : Status) (p : List Field) : (s.respond tag st p).cfg = s.cfg := rfl
@[simp] theorem State.respond_strap (tag : Byte) (st : Status) (p : List Field) : (s.respond tag st p).strap = s.strap := rfl
@[simp] theorem State.respond_be (tag : Byte) (st : Status) (p : List Field) : (s.respond tag st p).be = s.be := rfl
@[simp] theorem State.respond_vt (tag : Byte) (st : Status) (p : List Field) : (s.respond tag st p).vt = s.vt := rfl
@[simp] theorem State.respond_lanes (tag : Byte) (st : Status) (p : List Field) : (s.respond tag st p).lanes = s.lanes := rfl
@[simp] theorem State.respond_yd (tag : Byte) (st : Status) (p : List Field) : (s.respond tag st p).yd = s.yd := rfl
@[simp] theorem State.respond_td (tag : Byte) (st : Status) (p : List Field) : (s.respond tag st p).td = s.td := rfl
@[simp] theorem State.respond_stop (tag : Byte) (st : Status) (p : List Field) : (s.respond tag st p).stop = s.stop := rfl
@[simp] theorem State.respond_pending (tag : Byte) (st : Status) (p : List Field) : (s.respond tag st p).pending = s.pending := rfl

@[simp] theorem State.setPhase_tb (ph : Phase) : (s.setPhase ph).tb = s.tb := rfl
@[simp] theorem State.setPhase_cfg (ph : Phase) : (s.setPhase ph).cfg = s.cfg := rfl
@[simp] theorem State.setPhase_strap (ph : Phase) : (s.setPhase ph).strap = s.strap := rfl
@[simp] theorem State.setPhase_be (ph : Phase) : (s.setPhase ph).be = s.be := rfl
@[simp] theorem State.setPhase_vt (ph : Phase) : (s.setPhase ph).vt = s.vt := rfl
@[simp] theorem State.setPhase_lanes (ph : Phase) : (s.setPhase ph).lanes = s.lanes := rfl
@[simp] theorem State.setPhase_yd (ph : Phase) : (s.setPhase ph).yd = s.yd := rfl
@[simp] theorem State.setPhase_td (ph : Phase) : (s.setPhase ph).td = s.td := rfl
@[simp] theorem State.setPhase_stop (ph : Phase) : (s.setPhase ph).stop = s.stop := rfl
@[simp] theorem State.setPhase_pending (ph : Phase) : (s.setPhase ph).pending = s.pending := rfl

@[simp] theorem State.take_tb (tag : Byte) (c : Instr) : (s.take tag c).tb = s.tb := rfl
@[simp] theorem State.take_cfg (tag : Byte) (c : Instr) : (s.take tag c).cfg = s.cfg := rfl
@[simp] theorem State.take_strap (tag : Byte) (c : Instr) : (s.take tag c).strap = s.strap := rfl
@[simp] theorem State.take_be (tag : Byte) (c : Instr) : (s.take tag c).be = s.be := rfl
@[simp] theorem State.take_vt (tag : Byte) (c : Instr) : (s.take tag c).vt = s.vt := rfl
@[simp] theorem State.take_lanes (tag : Byte) (c : Instr) : (s.take tag c).lanes = s.lanes := rfl
@[simp] theorem State.take_yd (tag : Byte) (c : Instr) : (s.take tag c).yd = s.yd := rfl
@[simp] theorem State.take_td (tag : Byte) (c : Instr) : (s.take tag c).td = s.td := rfl
@[simp] theorem State.take_stop (tag : Byte) (c : Instr) : (s.take tag c).stop = s.stop := rfl
@[simp] theorem State.take_pending (tag : Byte) (c : Instr) : (s.take tag c).pending = s.pending := rfl
@[simp] theorem State.clockOut_tb (out : List Byte) : (s.clockOut out).tb = s.tb := rfl
@[simp] theorem State.clockOut_cfg (out : List Byte) : (s.clockOut out).cfg = s.cfg := rfl
@[simp] theorem State.clockOut_strap (out : List Byte) : (s.clockOut out).strap = s.strap := rfl
@[simp] theorem State.clockOut_be (out : List Byte) : (s.clockOut out).be = s.be := rfl
@[simp] theorem State.clockOut_vt (out : List Byte) : (s.clockOut out).vt = s.vt := rfl
@[simp] theorem State.clockOut_lanes (out : List Byte) : (s.clockOut out).lanes = s.lanes := rfl
@[simp] theorem State.clockOut_yd (out : List Byte) : (s.clockOut out).yd = s.yd := rfl
@[simp] theorem State.clockOut_td (out : List Byte) : (s.clockOut out).td = s.td := rfl
@[simp] theorem State.clockOut_stop (out : List Byte) : (s.clockOut out).stop = s.stop := rfl
@[simp] theorem State.clockOut_attn (out : List Byte) : (s.clockOut out).attn = s.attn := rfl
@[simp] theorem State.clockOut_pending (out : List Byte) : (s.clockOut out).pending = s.pending := rfl

@[simp] theorem State.noteClaimAhead_tb (held : Bool) : (s.noteClaimAhead held).tb = s.tb := rfl
@[simp] theorem State.noteClaimAhead_cfg (held : Bool) : (s.noteClaimAhead held).cfg = s.cfg := rfl
@[simp] theorem State.noteClaimAhead_strap (held : Bool) : (s.noteClaimAhead held).strap = s.strap := rfl
@[simp] theorem State.noteClaimAhead_vt (held : Bool) : (s.noteClaimAhead held).vt = s.vt := rfl
@[simp] theorem State.noteClaimAhead_lanes (held : Bool) : (s.noteClaimAhead held).lanes = s.lanes := rfl
@[simp] theorem State.noteClaimAhead_yd (held : Bool) : (s.noteClaimAhead held).yd = s.yd := rfl
@[simp] theorem State.noteClaimAhead_td (held : Bool) : (s.noteClaimAhead held).td = s.td := rfl
@[simp] theorem State.noteClaimAhead_stop (held : Bool) : (s.noteClaimAhead held).stop = s.stop := rfl
@[simp] theorem State.noteClaimAhead_cp (held : Bool) : (s.noteClaimAhead held).cp = s.cp := rfl
@[simp] theorem State.noteClaimAhead_attn (held : Bool) : (s.noteClaimAhead held).attn = s.attn := rfl
@[simp] theorem State.noteClaimAhead_pending (held : Bool) : (s.noteClaimAhead held).pending = s.pending := rfl

/-! ### What an update writes -/

@[simp] theorem State.lane_setLane_self (l : LaneId) (x : Lane) : (s.setLane l x).lane l = x := by
  simp [State.lane, State.setLane]

theorem State.lane_setLane_of_ne {l k : LaneId} (x : Lane) (h : k ≠ l) : (s.setLane l x).lane k = s.lane k := by
  simp only [State.lane, State.setLane, Fin.getElem_fin]
  exact Vector.getElem_set_ne _ _ (by simpa [Fin.ext_iff] using h.symm)

@[simp] theorem State.lane_modLane_self (l : LaneId) (f : Lane → Lane) : (s.modLane l f).lane l = f (s.lane l) := by
  simp [State.modLane]

theorem State.lane_modLane_of_ne {l k : LaneId} (f : Lane → Lane) (h : k ≠ l) :
    (s.modLane l f).lane k = s.lane k := s.lane_setLane_of_ne _ h

@[simp] theorem Lane.timer_setTimer_self (x : Lane) (t : TimerId) (v : Timer) : (x.setTimer t v).timer t = v := by
  simp [Lane.timer, Lane.setTimer]

@[simp] theorem State.startTimer_timer (l : LaneId) (t : TimerId) (n : Nat) :
    ((s.startTimer l t n).lane l).timer t = .running n := by simp [State.startTimer]

@[simp] theorem State.stopTimer_timer (l : LaneId) (t : TimerId) :
    ((s.stopTimer l t).lane l).timer t = .stopped := by simp [State.stopTimer]

@[simp] theorem State.desk_setDesk_self (d : DeskId) (x : Desk) : (s.setDesk d x).td.desks[d] = x := by
  simp [State.setDesk]

@[simp] theorem State.respond_responses (tag : Byte) (st : Status) (p : List Field) :
    (s.respond tag st p).cp.responses = s.cp.responses ++ [{ tag, status := st, payload := p }] := rfl

@[simp] theorem State.respond_inProgress (tag : Byte) (st : Status) (p : List Field) :
    (s.respond tag st p).cp.inProgress = s.cp.inProgress := rfl

@[simp] theorem State.take_inProgress (tag : Byte) (c : Instr) :
    (s.take tag c).cp.inProgress = some { tag, cmd := c, phase := .waiting } := rfl

@[simp] theorem State.take_responses (tag : Byte) (c : Instr) : (s.take tag c).cp.responses = s.cp.responses := rfl

@[simp] theorem State.setFlags_flags (f : GateMask → GateMask) : (s.setFlags f).cp.flags = f s.cp.flags := rfl

@[simp] theorem State.servePort_lastClass : s.servePort.be.lastClass = .port := rfl

@[simp] theorem State.modVisit_visits (n : Nat) (f : Visit → Visit) :
    (s.modVisit n f).vt.visits = s.vt.visits.map fun v => if v.number = n then f v else v := rfl

@[simp] theorem State.modWindow_ring (n : Nat) (f : Window → Window) :
    (s.modWindow n f).be.ring = s.be.ring.map fun w => if w.start = n then f w else w := rfl

@[simp] theorem State.modBooking_book (r : Text) (f : Booking → Booking) :
    (s.modBooking r f).be.book = s.be.book.map fun b => if b.ref = r then f b else b := rfl

@[simp] theorem State.clockOut_fetchOut (out : List Byte) : (s.clockOut out).cp.fetchOut = out := rfl

@[simp] theorem State.clockOut_responses (out : List Byte) : (s.clockOut out).cp.responses = s.cp.responses := rfl

@[simp] theorem State.clockOut_inProgress (out : List Byte) : (s.clockOut out).cp.inProgress = s.cp.inProgress := rfl

@[simp] theorem State.noteClaimAhead_be (held : Bool) :
    (s.noteClaimAhead held).be = { s.be with claimAhead := if s.retirementHeld && !held then s.claimTurn else none } := rfl

/-! ### Updates of one lane, one after another -/

/-- Two changes of one lane are one change. -/
theorem State.modLane_modLane (s : State) (l : LaneId) (f g : Lane → Lane) :
    (s.modLane l f).modLane l g = s.modLane l (g ∘ f) := by
  simp [State.modLane, State.setLane, State.lane]

/-- What a change makes of the lane as it stands is all there is to it. -/
theorem State.modLane_congr {s : State} {l : LaneId} {f g : Lane → Lane} (h : f (s.lane l) = g (s.lane l)) :
    s.modLane l f = s.modLane l g := by
  unfold State.modLane
  rw [h]

/-- A change that leaves the lane as it stands leaves the state. -/
theorem State.modLane_same {s : State} {l : LaneId} {f : Lane → Lane} (h : f (s.lane l) = s.lane l) :
    s.modLane l f = s := by
  unfold State.modLane
  rw [h]
  simp [State.setLane, State.lane]

theorem State.modLane_visit? (s : State) (l : LaneId) (f : Lane → Lane) : (s.modLane l f).visit? = s.visit? := rfl

theorem State.modLane_writable? (s : State) (l : LaneId) (f : Lane → Lane) :
    (s.modLane l f).writable? = s.writable? := rfl

/-- A message queued changes nothing but the lane's link. -/
theorem State.queueMsg_link (s : State) (l : LaneId) (m : OutMsg) :
    ∃ k, s.queueMsg l m = s.modLane l fun x => { x with link := k } :=
  ⟨_, rfl⟩

/-! ### One visit of the table -/

/-- A change of the visit with one number, by number. -/
theorem State.visit?_modVisit (s : State) {n m : Nat} {f : Visit → Visit} (hf : ∀ v, (f v).number = v.number) :
    (s.modVisit n f).visit? m = if m = n then (s.visit? m).map f else s.visit? m := by
  unfold State.visit? State.modVisit
  dsimp only
  rw [List.find?_map]
  have e : ((fun v : Visit => v.number == m) ∘ fun v => if v.number = n then f v else v) = fun v => v.number == m := by
    funext v
    simp only [Function.comp]
    split <;> simp [hf]
  rw [e]
  cases h : s.vt.visits.find? fun v => v.number == m with
  | none => simp
  | some v =>
    have := List.find?_some h
    simp only [beq_iff_eq] at this
    by_cases c : m = n <;> simp [this, c]

/-- A mark adds its cause to the visit marked and changes no other. -/
theorem State.visit?_mark (s : State) (n m : Nat) (c : Cause) :
    (s.mark n c).visit? m =
      if m = n then (s.visit? m).map fun v => { v with causes := insertCause c v.causes } else s.visit? m := by
  unfold State.mark
  split
  · have g := s.visit?_modVisit (n := n) (m := m) (f := fun v => { v with causes := insertCause c v.causes }) fun _ => rfl
    rw [← g]
    dsimp only
    split <;> rfl
  · rename_i h
    split
    · rename_i e
      subst e
      simp only [Bool.not_eq_true, Option.isSome_eq_false_iff, Option.isNone_iff_eq_none] at h
      simp [h]
    · rfl

/-- A visit may be written while it is live and not ending (R64). -/
theorem State.writable?_eq_some {s : State} {n : Nat} {v : Visit} :
    s.writable? n = some v ↔ s.visit? n = some v ∧ v.stage ≠ .closed ∧ v.ending = none := by
  unfold State.writable? State.live?
  cases h : s.visit? n with
  | none => simp
  | some w =>
    by_cases a : w.stage = .closed
    · simp only [Option.bind_some, a, if_true, Option.bind_none]; constructor
      · intro e; cases e
      · rintro ⟨e, b, -⟩; cases e; exact absurd a b
    · cases b : w.ending with
      | none => simp [a, b]; rintro rfl; exact ⟨a, b⟩
      | some k => simp [a, b]; rintro rfl _; simp [b]

/-- A write to a visit that may be written is made and marked. -/
theorem State.writeVisit_writable {s : State} {n : Nat} {v : Visit} (h : s.writable? n = some v) (c : Cause)
    (f : Visit → Visit) : s.writeVisit n c f = (s.modVisit n f).mark n c := by
  obtain ⟨a, b, e⟩ := State.writable?_eq_some.mp h
  simp [State.writeVisit, State.live?, a, b, e]

/-- The command taken completes at once: its response joins the queue and the port is as it was. -/
theorem State.complete_take (tag : Byte) (c : Instr) (st : Status) (p : List Field)
    (h : s.cp.inProgress = none) : (s.take tag c).complete st p = s.respond tag st p := by
  simp [State.complete, State.take, State.respond, ← h]

end Sys2Proof.Machine
end

