-- ==== Sys2Proof/Laws/Frame.lean ====
section
/-! SUPPORT. The reader of operands undoes their layout (R207): `Reads g a x` says that g takes the bytes x from the
front of any input and gives a. One lemma for each layout. -/

namespace Sys2Proof.Machine

/-- A reader gives a value from exactly these bytes, whatever follows them. -/
def Reads {α : Type} (g : Get α) (a : α) (x : List Byte) : Prop := ∀ rest, g (x ++ rest) = some (a, rest)

variable {α β : Type}

theorem Reads.of_pure (a : α) : Reads (pure a) a [] := fun _ => rfl

theorem Reads.bind {g : Get α} {f : α → Get β} {a : α} {b : β} {x y : List Byte} (h : Reads g a x)
    (k : Reads (f a) b y) : Reads (g >>= f) b (x ++ y) := fun rest => by
  change (g (x ++ y ++ rest)).bind (fun p => f p.1 p.2) = _
  rw [List.append_assoc, h]
  exact k rest

theorem Reads.bind_pure {g : Get α} {f : α → β} {a : α} {x : List Byte} (h : Reads g a x) :
    Reads (g >>= fun a => pure (f a)) (f a) x := by
  have := h.bind (f := fun a => (pure (f a) : Get β)) (Reads.of_pure (f a))
  rwa [List.append_nil] at this

theorem Reads.map {g : Get α} {a : α} {x : List Byte} (f : α → β) (h : Reads g a x) : Reads (f <$> g) (f a) x :=
  fun rest => by
    change (g (x ++ rest)).bind (fun p => some (f p.1, p.2)) = _
    rw [h]
    rfl

theorem Reads.seq {g : Get (α → β)} {k : Get α} {f : α → β} {a : α} {x y : List Byte} (h : Reads g f x)
    (hk : Reads k a y) : Reads (g <*> k) (f a) (x ++ y) := fun rest => by
  change (g (x ++ y ++ rest)).bind (fun p => (k p.2).bind fun q => some (p.1 q.1, q.2)) = _
  rw [List.append_assoc, h]
  simp [hk rest]

theorem reads_byte (b : Byte) : Reads getByte b [b] := fun _ => rfl

theorem beBytes_length (k n : Nat) : (beBytes k n).length = k := by
  induction k with
  | zero => rfl
  | succ k ih => simp [beBytes, ih]

/-- The bytes of a number depend on it modulo their range. -/
theorem beBytes_mod (k n : Nat) : beBytes k (n % 256 ^ k) = beBytes k n := by
  induction k generalizing n with
  | zero => rfl
  | succ k ih =>
    have h1 : n % 256 ^ (k + 1) / 256 ^ k % 256 = n / 256 ^ k % 256 := by
      rw [pow_succ, Nat.mod_mul_right_div_self, Nat.mod_mod]
    have h2 : n % 256 ^ (k + 1) % 256 ^ k = n % 256 ^ k := Nat.mod_mod_of_dvd _ (Dvd.intro _ rfl)
    simp only [beBytes]
    congr 1
    · apply BitVec.eq_of_toNat_eq
      simpa using h1
    · rw [← ih n, ← ih (n % 256 ^ (k + 1)), h2]

theorem reads_num (k n : Nat) (h : n < 256 ^ k) : Reads (getNum k) n (beBytes k n) := by
  induction k generalizing n with
  | zero =>
    obtain rfl : n = 0 := by simpa using h
    exact Reads.of_pure 0
  | succ k ih =>
    have hq : n / 256 ^ k < 256 := Nat.div_lt_of_lt_mul (by rwa [pow_succ] at h)
    have hr := ih (n % 256 ^ k) (Nat.mod_lt _ (by positivity))
    rw [beBytes_mod] at hr
    have := (reads_byte (BitVec.ofNat 8 (n / 256 ^ k))).bind
      (f := fun b => getNum k >>= fun m => pure (b.toNat * 256 ^ k + m)) (hr.bind_pure (f := fun m => _ * 256 ^ k + m))
    have e : (BitVec.ofNat 8 (n / 256 ^ k)).toNat * 256 ^ k + n % 256 ^ k = n := by
      rw [BitVec.toNat_ofNat, Nat.mod_eq_of_lt (by simpa using hq)]
      exact Nat.div_add_mod' n _
    rw [e] at this
    exact this

theorem reads_enum {l : List α} {a : α} (n : Nat) (hn : n < 256) (h : l[n]? = some a) :
    Reads (getEnum l) a (putByte n) := by
  have hb : putByte n = [BitVec.ofNat 8 n] := by simp [putByte, beBytes]
  rw [hb]
  refine (reads_byte _).bind (y := []) ?_
  rw [BitVec.toNat_ofNat, Nat.mod_eq_of_lt (by simpa using hn), h]
  exact Reads.of_pure a

theorem reads_mark (b : Bool) : Reads getMark b (putMark b) := by
  cases b
  · exact reads_enum (l := [false, true]) 0 (by decide) rfl
  · exact reads_enum (l := [false, true]) 1 (by decide) rfl

theorem reads_opt {g : Get α} {p : α → List Byte} {o : Option α} (h : ∀ a, o = some a → Reads g a (p a)) :
    Reads (getOpt g) o (putOpt p o) := by
  cases o with
  | none => exact (reads_mark false).bind (y := []) (Reads.of_pure none)
  | some a => exact (reads_mark true).bind (x := [1]) ((h a rfl).map some)

theorem reads_many {g : Get α} {p : α → List Byte} {l : List α} (h : ∀ a ∈ l, Reads g a (p a)) :
    Reads (getMany g l.length) l (l.flatMap p) := by
  induction l with
  | nil => exact Reads.of_pure []
  | cons a l ih =>
    have k := ih fun b hb => h b (List.mem_cons_of_mem _ hb)
    rw [List.flatMap_cons]
    exact (h a List.mem_cons_self).bind (f := fun a => getMany g l.length >>= fun l => pure (a :: l))
      (k.bind_pure (f := fun l => a :: l))

theorem reads_list {g : Get α} {p : α → List Byte} {l : List α} (hl : l.length < 256)
    (h : ∀ a ∈ l, Reads g a (p a)) : Reads (getList g) l (putList p l) := by
  refine (reads_byte (BitVec.ofNat 8 l.length)).bind ?_
  rw [BitVec.toNat_ofNat, Nat.mod_eq_of_lt (by simpa using hl)]
  exact reads_many h

theorem reads_text (t : Text) (h : t.length < 256) : Reads getText t (countedText t) := by
  have := reads_list (g := getByte) (p := fun b => [b]) h fun a _ => reads_byte a
  have e : t.flatMap (fun b => [b]) = t := by induction t <;> simp_all
  simp only [putList, e] at this
  exact this

theorem reads_vec {g : Get α} {p : α → List Byte} : {n : Nat} → {v : Vector α n} →
    (∀ a ∈ v.toList, Reads g a (p a)) → Reads (getVec g n) v (v.toList.flatMap p)
  | 0, v, _ => by
    have e : v = #v[] := Vector.eq_empty
    subst e
    exact Reads.of_pure _
  | n + 1, v, h => by
    have e : v = v.pop.push v.back := (Vector.push_pop_back v).symm
    have el : v.toList = v.pop.toList ++ [v.back] :=
      (congrArg Vector.toList e).trans Vector.toList_push
    rw [el] at h ⊢
    rw [List.flatMap_append]
    have k := reads_vec (v := v.pop) fun a ha => h a (List.mem_append_left _ ha)
    have b := h v.back (List.mem_append_right _ (by simp))
    have := k.bind (f := fun v => g >>= fun a => pure (v.push a)) (b.bind_pure (f := fun a => v.pop.push a))
    rw [← e] at this
    simpa [getVec] using this

/-! ### The layouts of R207, one by one -/

theorem reads_fits {k n : Nat} (h : fits k n = true) : Reads (getNum k) n (beBytes k n) :=
  reads_num k n (by simpa [fits] using h)

theorem reads_fitsOpt {k : Nat} {o : Option Nat} (h : fitsOpt k o = true) :
    Reads (getOpt (getNum k)) o (putOpt (beBytes k) o) :=
  reads_opt fun a e => reads_fits (by subst e; simpa [fitsOpt] using h)

theorem reads_fitsText {t : Text} (h : fitsText t = true) : Reads getText t (countedText t) :=
  reads_text t (by simpa [fitsText] using h)

theorem reads_optText {o : Option Text} (h : o.all fitsText = true) :
    Reads (getOpt getText) o (putOpt countedText o) :=
  reads_opt fun a e => reads_fitsText (by subst e; simpa using h)

theorem reads_pool (p : Pool) : Reads getPool p (putByte (poolByte p)) := by
  cases p <;> exact reads_enum _ (by decide) rfl

theorem reads_special (p : Special) : Reads getSpecial p (putByte (specialByte p)) := by
  cases p <;> exact reads_enum _ (by decide) rfl

theorem reads_moveKind (k : MoveKind) :
    Reads (getEnum [MoveKind.exportDrop, .emptyReturn, .importPick, .emptyPick]) k (putByte (moveKindByte k)) := by
  cases k <;> exact reads_enum _ (by decide) rfl

theorem reads_reason (r : HoldReason) : Reads getReason r (putByte (reasonByte r)) := by
  cases r <;> exact reads_enum _ (by decide) rfl

theorem reads_polarity (p : Polarity) : Reads getPolarity p (putByte (polarityByte p)) := by
  cases p <;> exact reads_enum _ (by decide) rfl

theorem reads_mode (m : DetectMode) :
    Reads (getEnum [DetectMode.off, .level, .rise, .fall, .both]) m (putByte (modeByte m)) := by
  cases m <;> exact reads_enum _ (by decide) rfl

theorem reads_action (a : CarrierAction) :
    Reads (getEnum [.active, .suspended, .remove]) a (putByte (carrierActionByte a)) := by
  cases a <;> exact reads_enum _ (by decide) rfl

theorem reads_zone (z : Zone) :
    Reads (getEnum [Zone.front, .doorEnd, .left, .right, .roof, .underside, .cornerPosts]) z
      (putByte (zoneByte z)) := by
  cases z <;> exact reads_enum _ (by decide) rfl

theorem reads_kind (k : BlockKind) :
    Reads (getEnum [BlockKind.stackExport, .stackEmpty, .deliveryImport, .emptyIssue, .inspection, .reefer, .hazard]) k
      (putByte (blockKindByte k)) := by
  cases k <;> exact reads_enum _ (by decide) rfl

theorem reads_move {m : BookMove} (h : fitsMove m = true) : Reads getMove m (BookMove.bytes m) := by
  simp only [fitsMove, Bool.and_eq_true, fitsList, decide_eq_true_eq, List.all_eq_true] at h
  obtain ⟨⟨⟨h1, h2⟩, h3⟩, h4, h5⟩ := h
  exact (reads_moveKind m.kind).bind ((reads_optText h1).bind ((reads_optText h2).bind ((reads_fitsOpt h3).bind
    (Reads.bind_pure (reads_list h4 fun a ha => reads_fitsText (h5 a ha))))))

theorem reads_moves {l : List BookMove} (h : fitsList fitsMove l = true) :
    Reads (getList getMove) l (putList BookMove.bytes l) := by
  simp only [fitsList, Bool.and_eq_true, decide_eq_true_eq, List.all_eq_true] at h
  exact reads_list h.1 fun m hm => reads_move (h.2 m hm)

theorem reads_booking {b : NewBooking} (h : fitsBooking b = true) : Reads getBooking b (NewBooking.bytes b) := by
  simp only [fitsBooking, Bool.and_eq_true] at h
  obtain ⟨⟨⟨⟨⟨⟨h1, h2⟩, h3⟩, h4⟩, h5⟩, h6⟩, h7⟩ := h
  exact (reads_fitsText h1).bind ((reads_fitsText h2).bind ((reads_optText h3).bind ((reads_optText h4).bind
    ((reads_fits h5).bind ((reads_pool b.pool).bind ((reads_special b.special).bind ((reads_moves h6).bind
      (Reads.bind_pure (reads_fitsOpt h7)))))))))

theorem reads_amend {a : Amend} (h : fitsAmend a = true) : Reads getAmend a (Amend.bytes a) := by
  cases a with
  | keep => exact (reads_byte 0).bind (y := []) (Reads.of_pure _)
  | clear => exact (reads_byte 2).bind (y := []) (Reads.of_pure _)
  | put t => exact (reads_byte 1).bind (x := [1]) (Reads.map Amend.put (reads_fitsText h))

theorem reads_amendBlock {a : AmendBlock} (h : fitsAmendBlock a = true) :
    Reads getAmendBlock a (AmendBlock.bytes a) := by
  cases a with
  | keep => exact (reads_byte 0).bind (y := []) (Reads.of_pure _)
  | clear => exact (reads_byte 2).bind (y := []) (Reads.of_pure _)
  | put n => exact (reads_byte 1).bind (x := [1]) (Reads.map AmendBlock.put (reads_fits h))

theorem reads_amendment {a : Amendment} (h : fitsAmendment a = true) :
    Reads getAmendment a (Amendment.bytes a) := by
  simp only [fitsAmendment, Bool.and_eq_true] at h
  obtain ⟨⟨⟨⟨h1, h2⟩, h3⟩, h4⟩, h5⟩ := h
  exact (reads_amend h1).bind ((reads_amend h2).bind ((reads_fitsOpt h3).bind
    ((reads_opt fun p _ => reads_pool p).bind ((reads_opt fun p _ => reads_special p).bind
      ((reads_opt fun l e => reads_moves (by rw [e] at h4; simpa using h4)).bind
        (Reads.bind_pure (reads_amendBlock h5)))))))

theorem reads_finding {f : Finding} (h : fits 1 f.severity = true) : Reads getFinding f (Finding.bytes f) :=
  (reads_zone f.zone).bind (Reads.bind_pure (reads_fits h))

theorem reads_laneConfig {c : LaneConfigOp} (h : fitsLaneConfig c = true) :
    Reads getLaneConfig c (LaneConfigOp.bytes c) := by
  simp only [fitsLaneConfig, Bool.and_eq_true] at h
  obtain ⟨⟨⟨⟨⟨⟨⟨⟨h1, h2⟩, h3⟩, h4⟩, h5⟩, h6⟩, h7⟩, h8⟩, h9⟩ := h
  refine (reads_vec (v := c.polarity) (p := putOpt fun p => putByte (polarityByte p)) fun o _ =>
    reads_opt fun p _ => reads_polarity p).bind ((reads_vec (v := c.mode) (p := putOpt fun m => putByte (modeByte m))
    fun o _ => reads_opt fun m _ => reads_mode m).bind ((reads_fitsOpt h1).bind ((reads_fitsOpt h2).bind
    ((reads_fitsOpt h3).bind ((reads_fitsOpt h4).bind ((reads_fitsOpt h5).bind ((reads_fitsOpt h6).bind
    ((reads_fitsOpt h7).bind ((reads_fitsOpt h8).bind (Reads.bind_pure (reads_opt fun r e => ?_)))))))))))
  rw [e] at h9
  have : r = 9600 ∨ r = 19200 ∨ r = 38400 := by simpa using h9
  rcases this with rfl | rfl | rfl <;> exact reads_enum _ (by decide) rfl

theorem reads_blockSet {b : BlockSetOp} (h : fitsBlockSet b = true) : Reads getBlockSet b (BlockSetOp.bytes b) := by
  simp only [fitsBlockSet, Bool.and_eq_true] at h
  obtain ⟨⟨h1, h2⟩, h3⟩ := h
  have open_ : ∀ o : Bool, Reads (getEnum [true, false]) o (putByte (if o then 0 else 1)) := by
    intro o
    cases o <;> exact reads_enum _ (by decide) rfl
  exact (reads_opt fun o _ => open_ o).bind ((reads_fitsOpt h1).bind ((reads_fitsOpt h2).bind
    ((reads_optText h3).bind (Reads.bind_pure (reads_opt fun k _ => reads_kind k)))))

theorem reads_settings {w : SettingsOp} (h : fitsSettings w = true) : Reads getSettings w (SettingsOp.bytes w) := by
  simp only [fitsSettings, Bool.and_eq_true, List.all_eq_true] at h
  obtain ⟨⟨⟨⟨⟨⟨⟨⟨⟨h1, h2⟩, h3⟩, h4⟩, h5⟩, h6⟩, h7⟩, h8⟩, h9⟩, h10⟩ := h
  have mode : ∀ m : StopMode, Reads (getEnum [StopMode.hold, .lowerIfClear]) m (putByte (match m with
      | .hold => 0
      | .lowerIfClear => 1)) := by
    intro m
    cases m <;> exact reads_enum _ (by decide) rfl
  have restart : ∀ m : Restart, Reads (getEnum [Restart.auto, .byCommand]) m (putByte (match m with
      | .auto => 0
      | .byCommand => 1)) := by
    intro m
    cases m <;> exact reads_enum _ (by decide) rfl
  have input : ∀ m, w.stopInput = some m →
      Reads (getEnum [DetectMode.both, .off]) m (putByte (stopInputByte m)) := by
    intro m e
    rw [e] at h10
    have : m = .both ∨ m = .off := by simpa using h10
    rcases this with rfl | rfl <;> exact reads_enum _ (by decide) rfl
  exact (reads_fitsOpt h1).bind ((reads_fitsOpt h2).bind ((reads_fitsOpt h3).bind ((reads_fitsOpt h4).bind
    ((reads_opt fun m _ => mode m).bind ((reads_opt fun m _ => restart m).bind
    ((reads_opt fun p _ => reads_polarity p).bind ((reads_opt input).bind ((reads_fitsOpt h5).bind
    ((reads_fitsOpt h6).bind ((reads_vec (v := w.weights) (p := putOpt putByte) fun o ho => reads_fitsOpt (h7 o ho)).bind
    ((reads_fitsOpt h8).bind (Reads.bind_pure (reads_fitsOpt h9)))))))))))))

theorem linkMask_roundtrip (m : LinkMask) : linkMaskOf (BitVec.ofNat 8 (LinkMask.toByte m)) = m := by
  obtain ⟨a, b, c, d, e⟩ := m
  revert a b c d e
  decide

theorem gateMask_roundtrip (m : GateMask) : gateMaskOf (BitVec.ofNat 8 (GateMask.toByte m)) = m := by
  obtain ⟨a, b, c, d, e, f, g⟩ := m
  revert a b c d e f g
  decide

theorem putByte_eq (n : Nat) : putByte n = [BitVec.ofNat 8 n] := by simp [putByte, beBytes]

theorem reads_linkMask (m : LinkMask) : Reads getLinkMask m (putOpt putByte (some (LinkMask.toByte m))) := by
  have h : Reads (getOpt getByte) (some (BitVec.ofNat 8 (LinkMask.toByte m)))
      (putOpt putByte (some (LinkMask.toByte m))) := by
    simp only [putOpt, putByte_eq]
    exact reads_opt (p := fun b => [b]) (o := some _) fun b _ => reads_byte b
  have := h.bind_pure (f := fun o => (o.map linkMaskOf).getD noLinkFlags)
  simp only [Option.map_some, Option.getD_some, linkMask_roundtrip] at this
  exact this

theorem reads_gateMask (m : GateMask) : Reads getGateMask m (putOpt putByte (some (GateMask.toByte m))) := by
  have h : Reads (getOpt getByte) (some (BitVec.ofNat 8 (GateMask.toByte m)))
      (putOpt putByte (some (GateMask.toByte m))) := by
    simp only [putOpt, putByte_eq]
    exact reads_opt (p := fun b => [b]) (o := some _) fun b _ => reads_byte b
  have := h.bind_pure (f := fun o => (o.map gateMaskOf).getD noGateFlags)
  simp only [Option.map_some, Option.getD_some, gateMask_roundtrip] at this
  exact this

end Sys2Proof.Machine
end

