-- ==== Sys2Proof/Laws/Kept.lean ====
section
/-! SUPPORT. `Kept s t`: t is reached from s by updates on the lanes' side, so that all of `LaneSide` is as it was
and the invariants of the visit slots and the wait list still hold. One lemma per shared operation says so; a
chain of operations is a chain of these lemmas. -/

namespace Sys2Proof.Machine

/-- What every operation on the lanes' side keeps. -/
structure Kept (s t : State) : Prop where
  side : LaneSide s t
  visits : s.visitsOk → t.visitsOk
  wait : s.waitOk → t.waitOk

theorem Kept.refl (s : State) : Kept s s :=
  ⟨⟨rfl, rfl, rfl, rfl, rfl, rfl, rfl, rfl, rfl, rfl, rfl, rfl, rfl⟩, id, id⟩

theorem LaneSide.trans {s t u : State} (h : LaneSide s t) (k : LaneSide t u) : LaneSide s u where
  tb := k.tb.trans h.tb
  cfg := k.cfg.trans h.cfg
  strap := k.strap.trans h.strap
  be := k.be.trans h.be
  stop := k.stop.trans h.stop
  pending := k.pending.trans h.pending
  inProgress := k.inProgress.trans h.inProgress
  responses := k.responses.trans h.responses
  faultCause := k.faultCause.trans h.faultCause
  fetchOut := k.fetchOut.trans h.fetchOut
  clockChanged := k.clockChanged.trans h.clockChanged
  syncReject := k.syncReject.trans h.syncReject
  portFault := k.portFault.trans h.portFault

theorem Kept.trans {s t u : State} (h : Kept s t) (k : Kept t u) : Kept s u :=
  ⟨h.side.trans k.side, k.visits ∘ h.visits, k.wait ∘ h.wait⟩

variable {s t : State}

theorem Kept.ite {c : Prop} [Decidable c] {a b : State} (h : Kept s a) (k : Kept s b) :
    Kept s (if c then a else b) := by split <;> assumption

theorem Kept.foldl {α : Type} (h : Kept s t) (l : List α) {f : State → α → State}
    (hf : ∀ u a, Kept s u → Kept s (f u a)) : Kept s (l.foldl f t) :=
  List.foldlRecOn l f h fun u k a _ => hf u a k

/-- A list without repeats takes one more element that it does not hold. -/
theorem nodup_concat {α : Type} {l : List α} {a : α} (h : l.Nodup) (ha : a ∉ l) : (l ++ [a]).Nodup :=
  List.concat_eq_append (a := a) ▸ h.concat ha

/-- Records under distinct keys take one more, whose key is new. -/
theorem nodup_map_concat {α β : Type} {f : α → β} {l : List α} {a : α} (h : (l.map f).Nodup)
    (ha : f a ∉ l.map f) : ((l ++ [a]).map f).Nodup :=
  l.map_append (l₂ := [a]) ▸ nodup_concat h ha

/-! ### Records of the lanes, the desks, the blocks -/

theorem Kept.setLane (h : Kept s t) (l : LaneId) (x : Lane) : Kept s (t.setLane l x) :=
  ⟨⟨h.side.1, h.side.2, h.side.3, h.side.4, h.side.5, h.side.6, h.side.7, h.side.8, h.side.9, h.side.10, h.side.11,
    h.side.12, h.side.13⟩, h.visits, h.wait⟩

theorem Kept.modLane (h : Kept s t) (l : LaneId) (f : Lane → Lane) : Kept s (t.modLane l f) := h.setLane l _

theorem Kept.startTimer (h : Kept s t) (l : LaneId) (k : TimerId) (n : Nat) : Kept s (t.startTimer l k n) :=
  h.modLane l _

theorem Kept.stopTimer (h : Kept s t) (l : LaneId) (k : TimerId) : Kept s (t.stopTimer l k) := h.modLane l _

theorem Kept.orderWithdrawal (h : Kept s t) (l : LaneId) : Kept s (t.orderWithdrawal l) := h.modLane l _

theorem Kept.modLink (h : Kept s t) (l : LaneId) (f : Link → Link) : Kept s (t.modLink l f) := h.modLane l _

theorem Kept.setLinkFlags (h : Kept s t) (l : LaneId) (m : LinkMask) : Kept s (t.setLinkFlags l m) := h.modLink l _

theorem Kept.queueMsg (h : Kept s t) (l : LaneId) (m : OutMsg) : Kept s (t.queueMsg l m) := h.modLink l _

theorem Kept.queuePrompt (h : Kept s t) (l : LaneId) (c : PromptCode) (m : Option Nat) :
    Kept s (t.queuePrompt l c m) := h.queueMsg l _

theorem Kept.rxFault (h : Kept s t) (l : LaneId) (m : LinkMask) : Kept s (t.rxFault l m) :=
  (h.modLink l _).setLinkFlags l m

theorem Kept.setTd (h : Kept s t) (x : TroubleDesk) : Kept s { t with td := x } :=
  ⟨⟨h.side.1, h.side.2, h.side.3, h.side.4, h.side.5, h.side.6, h.side.7, h.side.8, h.side.9, h.side.10, h.side.11,
    h.side.12, h.side.13⟩, h.visits, h.wait⟩

theorem Kept.setDesk (h : Kept s t) (d : DeskId) (x : Desk) : Kept s (t.setDesk d x) := h.setTd _

theorem Kept.setYd (h : Kept s t) (x : YardDirector) (hw : t.waitOk → State.waitOk { t with yd := x }) :
    Kept s { t with yd := x } :=
  ⟨⟨h.side.1, h.side.2, h.side.3, h.side.4, h.side.5, h.side.6, h.side.7, h.side.8, h.side.9, h.side.10, h.side.11,
    h.side.12, h.side.13⟩, h.visits, hw ∘ h.wait⟩

theorem Kept.setBlocks (h : Kept s t) (b : Vector Block 32) : Kept s { t with yd := { t.yd with blocks := b } } :=
  h.setYd _ id

/-- A flag of the lanes' side is set: LANE_FAULT, LINK_OFFLINE, STOP_ALL or TROUBLE_FULL. -/
theorem Kept.setFlags (h : Kept s t) (f : GateMask → GateMask)
    (hf : (f t.cp.flags).clockChanged = t.cp.flags.clockChanged
      ∧ (f t.cp.flags).syncReject = t.cp.flags.syncReject ∧ (f t.cp.flags).portFault = t.cp.flags.portFault) :
    Kept s (t.setFlags f) :=
  ⟨⟨h.side.1, h.side.2, h.side.3, h.side.4, h.side.5, h.side.6, h.side.7, h.side.8, h.side.9, h.side.10,
    hf.1.trans h.side.11, hf.2.1.trans h.side.12, hf.2.2.trans h.side.13⟩, h.visits, h.wait⟩

theorem Kept.flagLaneFault (h : Kept s t) : Kept s t.flagLaneFault := h.setFlags _ ⟨rfl, rfl, rfl⟩

theorem Kept.flagLinkOffline (h : Kept s t) : Kept s t.flagLinkOffline := h.setFlags _ ⟨rfl, rfl, rfl⟩

theorem Kept.flagStopAll (h : Kept s t) : Kept s t.flagStopAll := h.setFlags _ ⟨rfl, rfl, rfl⟩

theorem Kept.flagTroubleFull (h : Kept s t) : Kept s t.flagTroubleFull := by
  unfold State.flagTroubleFull
  exact .ite (h.setFlags _ ⟨rfl, rfl, rfl⟩) h

/-! ### The Visit Table -/

theorem Kept.setVt (h : Kept s t) (x : VisitTable) (hv : t.visitsOk → State.visitsOk { t with vt := x }) :
    Kept s { t with vt := x } :=
  ⟨⟨h.side.1, h.side.2, h.side.3, h.side.4, h.side.5, h.side.6, h.side.7, h.side.8, h.side.9, h.side.10, h.side.11,
    h.side.12, h.side.13⟩, hv ∘ h.visits, h.wait⟩

theorem Kept.setStagedIn (h : Kept s t) (l : List Nat) : Kept s { t with vt := { t.vt with stagedIn := l } } :=
  h.setVt _ id

/-- The visits of a table after `modVisit` carry the numbers they had. -/
theorem State.modVisit_numbers (s : State) (n : Nat) (f : Visit → Visit) (hn : ∀ v, (f v).number = v.number) :
    (s.modVisit n f).vt.visits.map (·.number) = s.vt.visits.map (·.number) := by
  simp only [State.modVisit_visits, List.map_map]
  refine List.map_congr_left fun v _ => ?_
  simp only [Function.comp]
  split
  · exact hn v
  · rfl

/-- A visit's record is changed, number kept and hold list sound. -/
theorem Kept.modVisit' (h : Kept s t) (n : Nat) (f : Visit → Visit) (hn : ∀ v, (f v).number = v.number)
    (hh : t.visitsOk → ∀ v ∈ t.vt.visits, v.number = n → holdsOk v.holds → holdsOk (f v).holds) :
    Kept s (t.modVisit n f) := by
  refine h.setVt _ fun ok => ?_
  have hnum := t.modVisit_numbers n f hn
  have ⟨h1, h2, h3, h4, h5, h6, h7, h8⟩ := ok
  refine ⟨by simpa using h1, hnum ▸ h2, fun w hw => ?_, h4, fun w hw => ?_, h6, fun m hm => hnum ▸ h7 m hm, h8⟩
  · obtain ⟨v, hv, rfl⟩ := List.mem_map.1 hw
    split
    · rw [hn v]
      exact h3 v hv
    · exact h3 v hv
  · obtain ⟨v, hv, rfl⟩ := List.mem_map.1 hw
    split
    · exact hh ok v hv ‹_› (h5 v hv)
    · exact h5 v hv

/-- A visit's record is changed, number and holds kept. -/
theorem Kept.modVisit (h : Kept s t) (n : Nat) (f : Visit → Visit) (hn : ∀ v, (f v).number = v.number := by intro; rfl)
    (hh : ∀ v, (f v).holds = v.holds := by intro; rfl) : Kept s (t.modVisit n f) :=
  h.modVisit' n f hn fun _ v _ _ k => (hh v).symm ▸ k

/-- A number that a lookup finds is the visit's own. -/
theorem State.visit?_some {s : State} {n : Nat} {v : Visit} (h : s.visit? n = some v) :
    v ∈ s.vt.visits ∧ v.number = n :=
  ⟨List.mem_of_find?_eq_some h, by simpa using List.find?_some h⟩

theorem State.live?_some {s : State} {n : Nat} {v : Visit} (h : s.live? n = some v) :
    s.visit? n = some v ∧ v.stage ≠ .closed := by
  simp only [State.live?, Option.bind_eq_some_iff] at h
  obtain ⟨w, hw, h⟩ := h
  split at h
  · cases h
  · cases h
    exact ⟨hw, ‹_›⟩

theorem State.writable?_some {s : State} {n : Nat} {v : Visit} (h : s.writable? n = some v) :
    s.live? n = some v ∧ v.ending = none := by
  simp only [State.writable?, Option.bind_eq_some_iff] at h
  obtain ⟨w, hw, h⟩ := h
  split at h
  · cases h
  · cases h
    exact ⟨hw, by simp_all⟩

/-- With numbers distinct, the visit a lookup finds is the only one of its number. -/
theorem State.visit?_unique {s : State} (ok : s.visitsOk) {n : Nat} {v w : Visit} (h : s.visit? n = some v)
    (hw : w ∈ s.vt.visits) (hn : w.number = n) : w = v :=
  List.inj_on_of_nodup_map ok.2.1 hw (visit?_some h).1 (hn.trans (visit?_some h).2.symm)

theorem Kept.mark (h : Kept s t) (n : Nat) (c : Cause) : Kept s (t.mark n c) := by
  unfold State.mark
  split
  swap
  · exact h
  rename_i hs
  have k := h.modVisit n fun v => { v with causes := insertCause c v.causes }
  dsimp only
  split
  · exact k
  · rename_i hn
    refine k.setVt _ fun ok => ?_
    obtain ⟨h1, h2, h3, h4, h5, h6, h7, h8⟩ := ok
    obtain ⟨v, hv⟩ := Option.isSome_iff_exists.1 hs
    refine ⟨h1, h2, h3, h4, h5, nodup_concat h6 hn, List.forall_mem_append.2 ⟨h7, List.forall_mem_singleton.2 ?_⟩, h8⟩
    refine (t.modVisit_numbers n (fun v => { v with causes := insertCause c v.causes }) fun _ => rfl).symm ▸ ?_
    exact List.mem_map.2 ⟨v, State.visit?_some hv⟩

/-- A write by a visit's owner, number and holds kept. -/
theorem Kept.writeVisit (h : Kept s t) (n : Nat) (c : Cause) (f : Visit → Visit)
    (hn : ∀ v, (f v).number = v.number := by intro; rfl) (hh : ∀ v, (f v).holds = v.holds := by intro; rfl) :
    Kept s (t.writeVisit n c f) := by
  unfold State.writeVisit
  split
  · exact .ite h ((h.modVisit n f hn hh).mark n c)
  · exact h

/-- The lane leaves the slot-wait list. -/
theorem Kept.leaveSlotWait (h : Kept s t) (l : LaneId) : Kept s (t.leaveSlotWait l) :=
  h.setVt _ fun ⟨h1, h2, h3, h4, h5, h6, h7, h8⟩ => ⟨h1, h2, h3, h4, h5, h6, h7, h8.filter _⟩

/-! ### Holds (R75 to R77) -/

theorem holdsOk_withoutReason {l : List Hold} (r : HoldReason) (h : holdsOk l) : holdsOk (withoutReason r l) :=
  ⟨(List.length_filter_le _ _).trans h.1, h.2.sublist (List.filter_sublist.map _)⟩

theorem holdsOk_append {l : List Hold} {k : Hold} (h : holdsOk l) (hl : l.length < Config.holdListSize)
    (hk : k.reason ∉ l.map (·.reason)) : holdsOk (l ++ [k]) :=
  ⟨by simpa using hl, nodup_map_concat h.2 hk⟩

theorem holdsOk_replace {l : List Hold} (r : HoldReason) (src : HoldSource) (h : holdsOk l) :
    holdsOk (l.map fun k => if k.reason = r then { k with source := src } else k) := by
  refine ⟨by simpa using h.1, ?_⟩
  have : (l.map fun k => if k.reason = r then { k with source := src } else k).map (·.reason)
      = l.map (·.reason) := by
    rw [List.map_map]
    refine List.map_congr_left fun k _ => ?_
    simp only [Function.comp]
    split <;> rfl
  rw [this]
  exact h.2

theorem Visit.holdsReason_iff (v : Visit) (r : HoldReason) :
    v.holdsReason r = true ↔ r ∈ v.holds.map (·.reason) := by
  simp [Visit.holdsReason, List.any_eq_true, List.mem_map]

theorem withoutReason_length_lt {v : Visit} {r : HoldReason} (h : v.holdsReason r = true) :
    (withoutReason r v.holds).length < v.holds.length := by
  simp only [Visit.holdsReason, List.any_eq_true, decide_eq_true_eq] at h
  obtain ⟨k, hk, hr⟩ := h
  exact List.length_filter_lt_length_iff_exists.2 ⟨k, hk, by simpa using hr⟩

theorem Kept.placeHold (h : Kept s t) (n : Nat) (r : HoldReason) (src : HoldSource) :
    Kept s (t.placeHold n r src).1 := by
  unfold State.placeHold
  split
  · exact h
  rename_i v hv
  have found := (State.live?_some (State.writable?_some hv).1).1
  split
  · exact h
  split
  · exact (h.modVisit' n _ (by intro; rfl) (by intro _ w _ _ k; exact holdsOk_replace r src k)).mark n _
  rename_i hr
  have absent : r ∉ v.holds.map (·.reason) := fun hm => hr ((v.holdsReason_iff r).2 hm)
  dsimp only
  split
  · refine (h.modVisit' n _ (by intro; rfl) ?_).mark n _
    intro ok w hw hn k
    obtain rfl := State.visit?_unique ok found hw hn
    exact holdsOk_append k ‹_› absent
  split
  · rename_i hc
    refine (h.modVisit' n _ (by intro; rfl) ?_).mark n _
    intro ok w hw hn k
    obtain rfl := State.visit?_unique ok found hw hn
    refine holdsOk_append (holdsOk_withoutReason _ k) ((withoutReason_length_lt hc).trans_le k.1) fun hm => ?_
    exact absent ((List.filter_sublist.map _).subset hm)
  · exact h.mark n _

theorem Kept.dropHold (h : Kept s t) (n : Nat) (r : HoldReason) : Kept s (t.dropHold n r).1 := by
  unfold State.dropHold
  split
  · exact h
  split
  · exact h
  dsimp only
  rename_i v hv _
  have found := (State.live?_some (State.writable?_some hv).1).1
  refine (h.modVisit' n _ (by intro; rfl) ?_).mark n _
  intro ok w hw hn k
  obtain rfl := State.visit?_unique ok found hw hn
  dsimp only
  split
  · exact ⟨by simp [Config.holdListSize], by simp⟩
  · exact holdsOk_withoutReason r k

end Sys2Proof.Machine
end

