-- ==== Sys2Proof/Laws/KeptHolds.lean ====
section
/-! SUPPORT. `Kept` for the operations on holds, the trouble area, the yard and the ending sequence. -/

namespace Sys2Proof.Machine

variable {s t : State}

/-! ### Send-offs and the trouble area -/

theorem Kept.cancelRaise (h : Kept s t) (l : LaneId) : Kept s (t.cancelRaise l) := by
  unfold State.cancelRaise
  split
  · exact .ite ((h.stopTimer l _).orderWithdrawal l) h
  · exact h

theorem Kept.enterHeld (h : Kept s t) (l : LaneId) : Kept s (t.enterHeld l) := by
  unfold State.enterHeld
  exact (Kept.ite (h.modLane l _) ((h.modLane l _).startTimer l _ _)).queuePrompt l _ _

theorem Kept.enterReleasing (h : Kept s t) (l : LaneId) : Kept s (t.enterReleasing l) := by
  unfold State.enterReleasing
  exact (((h.modLane l _).stopTimer l _).stopTimer l _).startTimer l _ _

theorem Kept.freshTicket (h : Kept s t) (l : LaneId) : Kept s (t.freshTicket l).1 := by
  unfold State.freshTicket
  dsimp only
  split
  · split
    · dsimp only
      exact (h.modLane l _).queueMsg l _
    · exact h
  · exact h

theorem Kept.queueTicket (h : Kept s t) (l : LaneId) : Kept s (t.queueTicket l).1 := by
  unfold State.queueTicket
  split
  · split
    · exact (h.queueMsg l _).freshTicket l
    · exact h
  · exact h

theorem Kept.startSendOff (h : Kept s t) (l : LaneId) (d : Dest) (m : Option Nat) :
    Kept s (t.startSendOff l d m).1 := by
  unfold State.startSendOff
  dsimp only
  split
  · dsimp only
    exact (h.modLane l _).queueMsg l _
  · exact ((h.modLane l _).queueMsg l _).queueTicket l

theorem Kept.startRaise (h : Kept s t) (l : LaneId) : Kept s (t.startRaise l).1 := by
  unfold State.startRaise
  dsimp only
  split
  · exact (h.modLane l _).stopTimer l _
  · exact (h.modLane l _).startTimer l _ _

theorem Kept.queueVisit (h : Kept s t) (n : Nat) : Kept s (t.queueVisit n) := by
  have k := (h.setTd (t.td.enqueue n)).writeVisit n .stage fun v => { v with stage := .queued, lane := none }
  unfold State.queueVisit
  dsimp only
  split
  · exact .ite (k.placeHold n _ _) k
  · exact k

theorem Kept.completeTrouble (h : Kept s t) (l : LaneId) : Kept s (t.completeTrouble l) := by
  unfold State.completeTrouble
  split
  · exact h
  · exact (Kept.ite (h.queueVisit _) h).enterReleasing l

theorem Kept.writeSeals (h : Kept s t) (n : Nat) (c : Cause) (v : Visit) : Kept s (t.writeSeals n c v) :=
  h.writeVisit n c _

theorem Kept.closeUnopened (h : Kept s t) (n : Nat) : Kept s (t.closeUnopened n) := by
  unfold State.closeUnopened
  split
  · refine .ite ?_ h
    exact .ite ((h.writeSeals n _ _).placeHold n _ _) (h.writeSeals n _ _)
  · exact h

theorem Kept.beginTrouble (h : Kept s t) (l : LaneId) : Kept s (t.beginTrouble l) := by
  unfold State.beginTrouble
  split
  · exact h
  · rename_i n _
    dsimp only
    refine .ite (.ite (Kept.completeTrouble (Kept.startRaise ?_ l) l) (Kept.startRaise ?_ l)) ?_ <;>
      exact (((h.modLane l _).closeUnopened n).writeVisit n _ _).startSendOff l _ _

theorem Kept.keepAnswer (h : Kept s t) (l : LaneId) (a : KeptAnswer) : Kept s (t.keepAnswer l a) := h.modLane l _

theorem Kept.takeGrant (h : Kept s t) (l : LaneId) : Kept s (t.takeGrant l) := by
  unfold State.takeGrant
  exact .ite (.ite (h.modLane l _) (h.beginTrouble l)) h

theorem Kept.addAdmission (h : Kept s t) (l : LaneId) (n : Nat) : Kept s (t.addAdmission l n) := h.setTd _

theorem Kept.handGrant (h : Kept s t) (l : LaneId) : Kept s (t.handGrant l) := by
  unfold State.handGrant
  exact .ite (h.modLane l _) (.ite (h.keepAnswer l _) (h.takeGrant l))

theorem Kept.grantPlace (h : Kept s t) : Kept s t.grantPlace := by
  unfold State.grantPlace
  split
  · exact h
  · rename_i l rest _
    refine .ite h ?_
    split
    · exact h
    · rename_i n _
      exact ((((h.setTd { t.td with blocked := rest }).addAdmission l n).flagTroubleFull).modLane l
        fun x => { x with trouble := .admitted }).handGrant l

theorem Kept.giveUpAdmission (h : Kept s t) (n : Nat) : Kept s (t.giveUpAdmission n) := by
  unfold State.giveUpAdmission
  exact .ite (h.setTd _).grantPlace h

theorem Kept.giveUpBlocked (h : Kept s t) (l : LaneId) : Kept s (t.giveUpBlocked l) := by
  unfold State.giveUpBlocked
  exact (h.setTd _).modLane l _

theorem Kept.offerTrouble (h : Kept s t) (l : LaneId) : Kept s (t.offerTrouble l) := by
  unfold State.offerTrouble
  refine .ite (h.modLane l _) (.ite h ?_)
  split
  · exact h
  · exact .ite ((h.setTd _).modLane l _) (((h.addAdmission l _).flagTroubleFull).beginTrouble l)

/-! ### Placement and release told (R77) -/

theorem Kept.returnToHeld (h : Kept s t) (l : LaneId) : Kept s (t.returnToHeld l) :=
  ((h.cancelRaise l).queueMsg l _).enterHeld l

theorem Kept.laneHoldGained (h : Kept s t) (l : LaneId) : Kept s (t.laneHoldGained l) := by
  unfold State.laneHoldGained
  dsimp only
  split
  · exact .ite (h.returnToHeld l) h
  · exact h

theorem Kept.laneHoldEmptied (h : Kept s t) (l : LaneId) : Kept s (t.laneHoldEmptied l) := by
  unfold State.laneHoldEmptied
  dsimp only
  split
  · exact h.modLane l _
  · refine .ite ?_ h
    split
    · exact h
    · rename_i n _
      have k := ((((h.modLane l fun x => { x with trouble := .none }).giveUpAdmission n).cancelRaise l).queueMsg l
        .resetKiosk).writeVisit n .direction (fun v => { v with direction := none })
      exact (k.enterHeld l).modLane l _
  · exact h

theorem Kept.refreshReady (h : Kept s t) (d : DeskId) : Kept s (t.refreshReady d) := by
  unfold State.refreshReady
  split
  · split
    · exact h.setDesk d _
    · exact h
  · exact h

theorem Kept.tellHolds (h : Kept s t) (n : Nat) (g : Bool) : Kept s (t.tellHolds n g) := by
  unfold State.tellHolds
  split
  · exact h
  · split
    · exact .ite h (.ite (h.laneHoldEmptied _) (.ite (h.laneHoldGained _) h))
    · exact h.refreshReady _
    · exact h

theorem Kept.placeTold (h : Kept s t) (n : Nat) (r : HoldReason) (src : HoldSource) :
    Kept s (t.placeTold n r src).1 := by
  have k := h.placeHold n r src
  unfold State.placeTold
  dsimp only
  split
  · exact k.tellHolds n _
  · exact k.tellHolds n _
  · exact k

theorem Kept.releaseTold (h : Kept s t) (n : Nat) (r : HoldReason) : Kept s (t.releaseTold n r).1 := by
  unfold State.releaseTold
  split
  · exact h
  · split
    · exact (h.dropHold n r).tellHolds n _
    · exact h

/-! ### The yard -/

theorem waitOk_filter {l : List WaitEntry} (p : WaitEntry → Bool)
    (h : l.length ≤ Config.waitListSize ∧ (l.map (·.visit)).Nodup) :
    (l.filter p).length ≤ Config.waitListSize ∧ ((l.filter p).map (·.visit)).Nodup :=
  ⟨(List.length_filter_le _ _).trans h.1, h.2.sublist (List.filter_sublist.map _)⟩

theorem waitOk_join {l : List WaitEntry} (n : Nat) (k : BlockKind)
    (h : l.length ≤ Config.waitListSize ∧ (l.map (·.visit)).Nodup) :
    (joinWaitList n k l).1.length ≤ Config.waitListSize ∧ ((joinWaitList n k l).1.map (·.visit)).Nodup := by
  unfold joinWaitList
  split
  · have : (l.map fun e => if e.visit = n then { e with kind := k } else e).map (·.visit) = l.map (·.visit) := by
      rw [List.map_map]
      refine List.map_congr_left fun e _ => ?_
      simp only [Function.comp]
      split <;> rfl
    exact ⟨by simpa using h.1, this.symm ▸ h.2⟩
  split
  · rename_i hn hl
    exact ⟨by simpa using hl, nodup_map_concat h.2 (by simpa using hn)⟩
  · exact h

theorem Kept.leaveWaitList (h : Kept s t) (n : Nat) : Kept s (t.leaveWaitList n) :=
  h.setYd _ fun k => waitOk_filter _ k

theorem Kept.joinWait (h : Kept s t) (n : Nat) (k : BlockKind) :
    Kept s { t with yd := { t.yd with waitList := (joinWaitList n k t.yd.waitList).1 } } :=
  h.setYd _ fun w => waitOk_join n k w

theorem Kept.assignDone (h : Kept s t) (v : Visit) (b : Vector Block 32) (ms : List MoveEntry) (c : Cause) :
    Kept s (t.assignDone v b ms c) := by
  unfold State.assignDone
  dsimp only
  have k := ((h.setBlocks b).writeVisit v.number c (fun w => { w with
    moves := ms
    direction := if t.onTroubleSendOff v then v.direction else some (.stops (composeStops b ms)) })).leaveWaitList
    v.number
  exact .ite (k.releaseTold _ _) k

theorem Kept.assignFailed (h : Kept s t) (v : Visit) (i : Nat) (k : BlockKind) :
    Kept s (t.assignFailed v i k).1 := by
  unfold State.assignFailed
  dsimp only
  have clear : Kept s (match v.direction with
      | some (.stops _) => t.writeVisit v.number .direction fun w => { w with direction := none }
      | _ => t) := by
    split
    · exact h.writeVisit _ _ _
    · exact h
  have p := clear.placeTold v.number .noYard .system
  split
  · exact p
  · exact p
  · exact p.joinWait _ _

theorem Kept.assign (h : Kept s t) (n : Nat) (c : Cause) : Kept s (t.assign n c).1 := by
  unfold State.assign
  split
  · exact h
  split
  · exact h
  split
  · exact h.placeTold _ _ _
  split
  · exact h.assignDone _ _ _ _
  · exact h.assignFailed _ _ _

theorem Kept.retryOne (h : Kept s t) (n : Nat) : Kept s (t.retryOne n) := by
  unfold State.retryOne
  refine .ite h ?_
  split
  · exact h
  · refine .ite h ?_
    split
    · exact h.assignDone _ _ _ _
    · exact h.joinWait _ _

theorem Kept.retryWalk (h : Kept s t) : Kept s t.retryWalk := h.foldl _ fun _ _ k => k.retryOne _

/-! ### The ending sequence (R72) -/

theorem Kept.endMoves (h : Kept s t) (n : Nat) (c : Bool) : Kept s (t.endMoves n c) := by
  unfold State.endMoves
  split
  · exact h
  · dsimp only
    refine .ite (Kept.retryWalk ?_) ?_ <;> refine Kept.leaveWaitList ?_ n <;>
      exact .ite ((h.setBlocks _).modVisit n _) (((h.setBlocks _).modVisit n _).mark n _)

theorem Kept.beginEnding (h : Kept s t) (n : Nat) (k : EndKind) : Kept s (t.beginEnding n k) :=
  (h.modVisit n fun v => { v with ending := some k }).endMoves n _

theorem Kept.endPlace (h : Kept s t) (n : Nat) : Kept s (t.endPlace n) := by
  unfold State.endPlace
  split
  · exact h
  · split
    · exact .ite (((h.giveUpBlocked _).modLane _ _).giveUpAdmission n) (h.giveUpAdmission n)
    · exact (h.setDesk _ _).grantPlace
    · exact h.setStagedIn _
    · exact h

theorem Kept.closeVisit (h : Kept s t) (n : Nat) : Kept s (t.closeVisit n) := by
  refine Kept.mark ?_ n _
  have same : (fun v : Visit => if v.number = n then closedVisit n v.causes else v)
      = fun v => if v.number = n then closedVisit v.number v.causes else v :=
    funext fun v => ite_congr rfl (fun e => by rw [e]) fun _ => rfl
  have this : t.modVisit n (fun v => closedVisit n v.causes)
      = t.modVisit n fun v => closedVisit v.number v.causes := by
    simp only [State.modVisit, same]
  rw [this]
  exact h.modVisit' n _ (by intro; rfl) (by intro _ _ _ _ _; exact ⟨by simp [closedVisit], by simp [closedVisit]⟩)

theorem Kept.finishEnding (h : Kept s t) (n : Nat) : Kept s (t.finishEnding n) := (h.endPlace n).closeVisit n

end Sys2Proof.Machine
end

