-- ==== Sys2Proof/Laws/KeptLane.lean ====
section
/-! SUPPORT. `Kept` for the operations of the lane machine: send-offs, checks, entries, messages, stop-all. -/

namespace Sys2Proof.Machine

variable {s t : State}

/-! ### The raise and its completion -/

theorem Kept.writeReleased (h : Kept s t) (n : Nat) : Kept s (t.writeReleased n) := h.writeVisit n _ _

theorem Kept.markEligible (h : Kept s t) (n : Nat) : Kept s (t.markEligible n) := by
  unfold State.markEligible
  split
  · split
    · exact .ite h (h.writeVisit n _ _)
    · exact h
  · exact h

theorem Kept.enterStaging (h : Kept s t) (n : Nat) : Kept s (t.enterStaging n) := by
  unfold State.enterStaging
  dsimp only
  refine .ite (Kept.markEligible ?_ n) ?_ <;> exact (h.setStagedIn _).writeVisit n _ _

theorem Kept.owe (h : Kept s t) (l : LaneId) (o : Owed) : Kept s (t.owe l o) := h.modLane l _

theorem Kept.queuePresent (h : Kept s t) (l : LaneId) : Kept s (t.queuePresent l) := h.queueMsg l _

theorem Kept.turnBack (h : Kept s t) (l : LaneId) (n : Nat) : Kept s (t.turnBack l n) :=
  ((h.modLane l _).owe l _).beginEnding n _

theorem Kept.completeRaise (h : Kept s t) (l : LaneId) : Kept s (t.completeRaise l) := by
  unfold State.completeRaise
  dsimp only
  split
  · exact h
  · split
    · split
      · exact ((h.orderWithdrawal l).queueMsg l _).enterHeld l
      · exact ((h.writeReleased _).owe l _).enterReleasing l
    · exact (h.enterStaging _).enterReleasing l
    · exact h.completeTrouble l
    · exact (h.enterReleasing l).turnBack l _
    · exact h.enterReleasing l

theorem Kept.orderRaise (h : Kept s t) (l : LaneId) : Kept s (t.orderRaise l) := by
  unfold State.orderRaise
  exact .ite ((h.startRaise l).completeRaise l) (h.startRaise l)

theorem Kept.beginSendOff (h : Kept s t) (l : LaneId) (d : Dest) (m : Option Nat) :
    Kept s (t.beginSendOff l d m) := by
  unfold State.beginSendOff
  split
  · exact h.beginTrouble l
  · exact .ite ((h.startSendOff l _ _).orderRaise l) (h.startSendOff l _ _)

theorem Kept.takeTicketReport (h : Kept s t) (l : LaneId) (r : TicketReport) : Kept s (t.takeTicketReport l r) := by
  unfold State.takeTicketReport
  dsimp only
  split
  · split
    · split
      · exact h.orderRaise l
      · exact h.orderRaise l
      · exact .ite ((h.freshTicket l).orderRaise l) (h.freshTicket l)
      · exact h
    · exact h
  · exact h

theorem Kept.reportTicket (h : Kept s t) (l : LaneId) (r : TicketReport) : Kept s (t.reportTicket l r) := by
  unfold State.reportTicket
  exact .ite ((h.modLink l _).keepAnswer l _) ((h.modLink l _).takeTicketReport l r)

theorem Kept.reportTickets (h : Kept s t) (l : LaneId) (rs : List TicketReport) : Kept s (t.reportTickets l rs) :=
  h.foldl rs fun _ r k => k.reportTicket l r

theorem Kept.takeRedirected (h : Kept s t) (l : LaneId) : Kept s (t.takeRedirected l) := by
  unfold State.takeRedirected
  dsimp only
  split
  · refine .ite (.ite ?_ ?_) h
    · exact ((h.cancelRaise l).queueTicket l).orderRaise l
    · exact (h.cancelRaise l).queueTicket l
  · exact h

theorem Kept.tellRedirected (h : Kept s t) (n : Nat) : Kept s (t.tellRedirected n) := by
  unfold State.tellRedirected
  split
  · exact h
  · split
    · exact .ite h (.ite (h.keepAnswer _ _) (h.takeRedirected _))
    · exact h.refreshReady _
    · exact h

theorem Kept.redirect (h : Kept s t) (n : Nat) (named : List Nat) : Kept s (t.redirect n named).1 := by
  unfold State.redirect
  split
  · exact h
  · dsimp only
    split
    · exact h
    · generalize hu : State.modVisit _ n _ = u
      have k : Kept s u := by
        rw [← hu]
        exact (h.setBlocks _).modVisit n _
      have g := k.assign n .redirected
      split
      · rename_i e
        rw [e] at g
        exact g.tellRedirected n
      · rename_i e
        rw [e] at g
        dsimp only
        split
        · exact (g.mark n _).refreshReady _
        · exact g.mark n _
      · rename_i e
        rw [e] at g
        exact g

/-! ### Checks -/

theorem Kept.takeChecksFinal (h : Kept s t) (l : LaneId) : Kept s (t.takeChecksFinal l) := by
  unfold State.takeChecksFinal
  refine .ite ?_ h
  split
  · exact .ite (h.modLane l _) (h.enterHeld l)
  · exact h

theorem Kept.checkFinal (h : Kept s t) (l : LaneId) : Kept s (t.checkFinal l) := by
  unfold State.checkFinal
  dsimp only
  split
  · exact .ite (.ite ((h.modLane l _).keepAnswer l _) ((h.modLane l _).takeChecksFinal l)) h
  · exact h

theorem Kept.sealHolds (h : Kept s t) (n : Nat) (a b : Visit) (c : Bool) : Kept s (t.sealHolds n a b c).1 := by
  unfold State.sealHolds
  have k := h.placeTold n .badSeal .lane
  split
  · exact h
  split
  · split
    case h_1 e => exact (congrArg Prod.fst e ▸ k : _)
    case h_2 e => exact (congrArg Prod.fst e ▸ k : _)
    case h_3 e => exact (congrArg Prod.fst e ▸ k : _)
  split
  · exact h.releaseTold n _
  · exact h

theorem Kept.tellClosed (h : Kept s t) (l : LaneId) : Kept s (t.tellClosed l) := by
  unfold State.tellClosed
  exact (Kept.ite (h.queuePresent l) h).checkFinal l

theorem Kept.settleSeals (h : Kept s t) (n : Nat) (a b : Visit) (c : ReadChange) : Kept s (t.settleSeals n a b c).1 := by
  unfold State.settleSeals
  dsimp only
  split
  · exact (((h.writeSeals n _ _).stopTimer _ _).sealHolds n _ _ _).tellClosed _
  · exact (h.writeSeals n _ _).sealHolds n _ _ _

theorem Kept.takeSealRead (h : Kept s t) (n : Nat) (x : Text) (src : ReadSource) (k : Option Nat) :
    Kept s (t.takeSealRead n x src k).1 := by
  unfold State.takeSealRead
  split
  · exact h
  · dsimp only
    split
    · exact h
    · exact h
    · exact h.settleSeals n _ _ _

theorem Kept.openSealWindow (h : Kept s t) (l : LaneId) : Kept s (t.openSealWindow l) := by
  unfold State.openSealWindow
  dsimp only
  split
  · exact .ite (((h.modLane l _).writeSeals _ _ _).startTimer l _ _) (h.modLane l _)
  · exact h.modLane l _

theorem Kept.closeSealWindow (h : Kept s t) (l : LaneId) : Kept s (t.closeSealWindow l) := by
  unfold State.closeSealWindow
  split
  · exact .ite (((h.writeSeals _ _ _).sealHolds _ _ _ _).tellClosed l) h
  · exact h

theorem Kept.startDamageWindow (h : Kept s t) (l : LaneId) : Kept s (t.startDamageWindow l) := by
  unfold State.startDamageWindow
  exact .ite (h.stopTimer l _) (h.startTimer l _ _)

theorem Kept.damageActs (h : Kept s t) (n i x : Nat) : Kept s (t.damageActs n i x).1 := by
  unfold State.damageActs
  split
  · exact h
  · split
    · exact h
    · dsimp only
      by_cases hx : x ≥ t.cfg.tHold
      · simp only [hx, if_true]
        repeat' split
        all_goals first
          | exact (h.placeTold _ _ _).redirect n _
          | exact h.placeTold _ _ _
      · simp only [hx, if_false]
        split
        · exact h.redirect n _
        · exact h

theorem Kept.takeFindings (h : Kept s t) (v : Visit) (i : Nat) (d : DamageRecord) (fs : List Finding) :
    Kept s (t.takeFindings v i d fs).1 := by
  unfold State.takeFindings
  dsimp only
  have k : Kept s (t.writeVisit v.number
      (if decide (v.stage = .released) = true then .damageAfterRelease else .checks)
      fun w => w.setDamage i (d.takeAll t.cfg.weights (decide (v.stage = .released)) fs)) := h.writeVisit _ _ _
  split
  · exact k.damageActs _ _ _
  · exact k

/-! ### Entries -/

theorem Kept.dropHeldMessage (h : Kept s t) (l : LaneId) : Kept s (t.dropHeldMessage l) := h.modLink l _

theorem Kept.enterClosed (h : Kept s t) (l : LaneId) : Kept s (t.enterClosed l) :=
  ((h.modLane l _).queuePrompt l _ _).dropHeldMessage l

theorem Kept.enterApproach (h : Kept s t) (l : LaneId) : Kept s (t.enterApproach l) := h.modLane l _

theorem Kept.startRequest (h : Kept s t) (l : LaneId) (r : Flight) : Kept s (t.startRequest l r) := h.modLane l _

theorem Kept.startEntry (h : Kept s t) (l : LaneId) (e : Entry) : Kept s (t.startEntry l e) := by
  unfold State.startEntry
  split <;> exact h.startRequest l _

theorem Kept.entryArrives (h : Kept s t) (l : LaneId) (n : Nat) (e : Entry) : Kept s (t.entryArrives l n e) := by
  unfold State.entryArrives
  dsimp only
  split
  · exact .ite (((h.writeVisit n _ _).modLane l _).startEntry l _) (((h.writeVisit n _ _).modLane l _).modLane l _)
  · exact .ite ((h.modLane l _).startEntry l _) ((h.modLane l _).modLane l _)

theorem Kept.writePendingPlate (h : Kept s t) (l : LaneId) : Kept s (t.writePendingPlate l) := by
  unfold State.writePendingPlate
  dsimp only
  split
  · exact (h.writeVisit _ _ _).modLane l _
  · exact h

theorem Kept.takeUpVisit (h : Kept s t) (l : LaneId) : Kept s (t.takeUpVisit l) := by
  unfold State.takeUpVisit
  split
  · exact h
  · dsimp only
    split
    · exact ((((h.startDamageWindow l).modLane l _).queuePrompt l _ _).startTimer l _ _).startRequest l _
    · exact (((((h.startDamageWindow l).modLane l _).queuePrompt l _ _).startTimer l _ _).modLane l _).entryArrives
        l _ _
    · exact (((h.startDamageWindow l).modLane l _).queuePrompt l _ _).startTimer l _ _

/-! ### Visit numbers (R66) -/

/-- The numbers a search for a free one passes, in the order it passes them. -/
def numbersFrom (n : Nat) : Nat → List Nat
  | 0 => []
  | k + 1 => n :: numbersFrom (nextNumber n) k

theorem nextNumber_range (n : Nat) : 1 ≤ nextNumber n ∧ nextNumber n ≤ Config.maxVisitNumber := by
  unfold nextNumber Config.maxVisitNumber
  split
  · simp
  · omega

theorem freeNumber_range (held : List Nat) (n k : Nat) (h : 1 ≤ n ∧ n ≤ Config.maxVisitNumber) :
    1 ≤ freeNumber held n k ∧ freeNumber held n k ≤ Config.maxVisitNumber := by
  induction k generalizing n with
  | zero => exact h
  | succ k ih =>
    unfold freeNumber
    split
    · exact ih _ (nextNumber_range n)
    · exact h

/-- A search that ends on a held number has found every number it passed held. -/
theorem freeNumber_held (held : List Nat) (n k : Nat) (h : freeNumber held n k ∈ held) :
    ∀ m ∈ numbersFrom n (k + 1), m ∈ held := by
  induction k generalizing n with
  | zero => simpa [numbersFrom, freeNumber] using h
  | succ k ih =>
    unfold freeNumber at h
    split at h
    · intro m hm
      rcases List.mem_cons.1 hm with rfl | hm
      · assumption
      · exact ih _ h m hm
    · contradiction

/-- The k-th number passed, counted from 1 to 65535 in a circle. -/
theorem numbersFrom_eq (n k : Nat) (h : 1 ≤ n ∧ n ≤ 65535) :
    numbersFrom n k = (List.range k).map fun i => (n - 1 + i) % 65535 + 1 := by
  induction k generalizing n with
  | zero => rfl
  | succ k ih =>
    rw [numbersFrom, ih _ (nextNumber_range n), List.range_succ_eq_map, List.map_cons, List.map_map]
    refine List.cons_eq_cons.2 ⟨by omega, List.map_congr_left fun i _ => ?_⟩
    have step : nextNumber n = if n ≥ 65535 then 1 else n + 1 := rfl
    simp only [Function.comp, step]
    split <;> omega

theorem numbersFrom_nodup (n k : Nat) (h : 1 ≤ n ∧ n ≤ 65535) (hk : k ≤ 65535) : (numbersFrom n k).Nodup := by
  rw [numbersFrom_eq n k h]
  refine List.Nodup.map_on (fun i hi j hj e => ?_) List.nodup_range
  simp only [List.mem_range] at hi hj
  omega

theorem numbersFrom_length (n k : Nat) : (numbersFrom n k).length = k := by
  induction k generalizing n with
  | zero => rfl
  | succ k ih => simp [numbersFrom, ih]

/-- With no more than 64 slots in use, the number found is held by none. -/
theorem freeNumber_fresh (held : List Nat) (n : Nat) (h : 1 ≤ n ∧ n ≤ Config.maxVisitNumber)
    (hl : held.length ≤ Config.slotCount) : freeNumber held n Config.slotCount ∉ held := by
  intro hm
  have sub := freeNumber_held held n _ hm
  have := (numbersFrom_nodup n 65 h (by decide)).subperm sub |>.length_le
  rw [numbersFrom_length] at this
  simp only [Config.slotCount] at hl
  omega

theorem Kept.createVisit (h : Kept s t) (l : LaneId) (hl : t.vt.visits.length < Config.slotCount) :
    Kept s (t.createVisit l) := by
  unfold State.createVisit
  refine Kept.mark (Kept.modLane (h.setVt _ fun ok => ?_) l _) _ _
  obtain ⟨h1, h2, h3, h4, h5, h6, h7, h8⟩ := ok
  have free := freeNumber_range (t.vt.visits.map (·.number)) t.vt.next Config.slotCount h4
  have fresh := freeNumber_fresh (t.vt.visits.map (·.number)) t.vt.next h4 (by simpa using h1)
  exact ⟨by simpa using hl, nodup_map_concat h2 fresh,
    List.forall_mem_append.2 ⟨h3, List.forall_mem_singleton.2 free⟩, nextNumber_range _,
    List.forall_mem_append.2 ⟨h5, List.forall_mem_singleton.2 ⟨by simp, by simp⟩⟩, h6,
    fun n hn => List.map_append ▸ List.mem_append_left _ (h7 n hn), h8⟩

theorem Kept.grantSlot (h : Kept s t) (l : LaneId) (hl : t.vt.visits.length < Config.slotCount) :
    Kept s (t.grantSlot l) := by
  unfold State.grantSlot
  exact .ite (((h.createVisit l hl).writePendingPlate l).keepAnswer l _)
    (((h.createVisit l hl).writePendingPlate l).takeUpVisit l)

theorem Kept.requestSlot (h : Kept s t) (l : LaneId) : Kept s (t.requestSlot l) := by
  unfold State.requestSlot
  split
  · exact h
  split
  · rename_i hf
    exact h.grantSlot l (by simp_all [State.slotFree])
  · rename_i hn _
    refine Kept.queuePrompt (h.setVt { t.vt with slotWait := t.vt.slotWait ++ [l] }
      fun ⟨h1, h2, h3, h4, h5, h6, h7, h8⟩ => ⟨h1, h2, h3, h4, h5, h6, h7, nodup_concat h8 hn⟩) l _ _

theorem Kept.grantSlotWait (h : Kept s t) : Kept s t.grantSlotWait := by
  unfold State.grantSlotWait
  split
  · rename_i l rest e
    split
    · rename_i hf
      refine Kept.grantSlot (h.setVt { t.vt with slotWait := rest } fun ⟨h1, h2, h3, h4, h5, h6, h7, h8⟩ => ⟨h1, h2, h3, h4, h5, h6, h7, ?_⟩) l
        (by simpa [State.slotFree] using hf)
      rw [e] at h8
      exact (List.nodup_cons.1 h8).2
    · exact h
  · exact h

theorem Kept.takeStop (h : Kept s t) (l : LaneId) : Kept s (t.takeStop l) := by
  unfold State.takeStop
  exact .ite ((h.modLane l _).enterClosed l) (((h.modLane l _).modLane l _).requestSlot l)

theorem Kept.enterIdle (h : Kept s t) (l : LaneId) : Kept s (t.enterIdle l) := by
  unfold State.enterIdle
  refine .ite (h.enterClosed l) ?_
  dsimp only
  exact .ite ((Kept.ite (((h.modLane l _).queueMsg l _).enterApproach l) ((h.modLane l _).queueMsg l _)).takeStop l)
    (Kept.ite (((h.modLane l _).queueMsg l _).enterApproach l) ((h.modLane l _).queueMsg l _))

theorem Kept.enterParked (h : Kept s t) (l : LaneId) : Kept s (t.enterParked l) := by
  unfold State.enterParked
  exact (h.modLane l _).queueMsg l _

theorem Kept.enterFault (h : Kept s t) (l : LaneId) (c : FaultCause) : Kept s (t.enterFault l c) :=
  ((h.modLane l _).orderWithdrawal l).flagLaneFault

theorem Kept.laneMinute (h : Kept s t) (l : LaneId) : Kept s (t.laneMinute l) := by
  unfold State.laneMinute
  dsimp only
  split
  · split
    · exact .ite (h.enterParked l) h
    · exact h
  · split
    · exact .ite (h.enterIdle l) h
    · exact h
  · exact h

theorem Kept.handEligible (h : Kept s t) : Kept s t.handEligible := by
  unfold State.handEligible
  exact .ite h (h.foldl _ fun _ n k => .ite (k.markEligible n) k)

/-! ### Identification and direction -/

theorem Kept.takeEntry (h : Kept s t) (l : LaneId) (n : Nat) (e : Entry) : Kept s (t.takeEntry l n e) := by
  unfold State.takeEntry
  split
  · exact .ite (h.startEntry l _) (h.entryArrives l n _)
  · exact h.startEntry l _

theorem Kept.actExpiry (h : Kept s t) (l : LaneId) (n : Nat) : Kept s (t.actExpiry l n) := by
  unfold State.actExpiry
  exact ((Kept.ite ((h.placeTold n _ _).placeTold n _ _) (h.placeTold n _ _)).modLane l _).enterHeld l

theorem Kept.afterAnswer (h : Kept s t) (l : LaneId) (n : Nat) : Kept s (t.afterAnswer l n) := by
  unfold State.afterAnswer
  refine .ite (h.actExpiry l n) ?_
  split
  · exact (h.modLane l _).startRequest l _
  · exact (h.modLane l _).takeEntry l n _
  · exact h

theorem Kept.takeKeptEvent (h : Kept s t) (l : LaneId) (e : KeptEvent) : Kept s (t.takeKeptEvent l e) := by
  unfold State.takeKeptEvent
  split
  · exact .ite (h.offerTrouble l) h
  · split
    · exact .ite (h.laneHoldEmptied l) h
    · exact h

theorem Kept.takeKeptEvents (h : Kept s t) (l : LaneId) : Kept s (t.takeKeptEvents l) :=
  (h.modLane l _).foldl _ fun _ e k => k.takeKeptEvent l e

theorem Kept.takeSearch (h : Kept s t) (l : LaneId) (r : SearchResult) : Kept s (t.takeSearch l r) := by
  unfold State.takeSearch
  dsimp only
  split
  · refine .ite (h.actExpiry l _) ?_
    split
    · exact h.startRequest l _
    · exact h.startRequest l _
    · exact h.startRequest l _
    · exact ((h.modLane l _).queuePrompt l _ _).afterAnswer l _
    · exact (h.queuePresent l).afterAnswer l _
  · exact h.takeKeptEvents l

theorem Kept.axleCheck (h : Kept s t) (l : LaneId) (n : Nat) : Kept s (t.axleCheck l n) := by
  unfold State.axleCheck
  split
  · exact .ite (h.placeTold n _ _) h
  · exact h

theorem Kept.sendToStaging (h : Kept s t) (l : LaneId) (n m : Nat) : Kept s (t.sendToStaging l n m) := by
  unfold State.sendToStaging
  exact .ite (((h.writeVisit n _ _).writeVisit n _ _).beginSendOff l _ _)
    (.ite (((h.modLane l _).owe l _).beginEnding n _) h)

theorem Kept.takeStagingFull (h : Kept s t) (l : LaneId) (m : Nat) : Kept s (t.takeStagingFull l m) := by
  unfold State.takeStagingFull
  exact .ite ((h.modLane l _).beginSendOff l _ _) h

theorem Kept.takeClaim (h : Kept s t) (l : LaneId) (a : ClaimAnswer) : Kept s (t.takeClaim l a) := by
  unfold State.takeClaim
  dsimp only
  split
  · refine .ite ((h.queuePresent l).afterAnswer l _) ?_
    split
    · exact ((h.stopTimer l _).modLane l _).sendToStaging l _ _
    · refine ((Kept.openSealWindow (Kept.axleCheck (.ite ?_ ?_) l _) l).modLane l _ |>.queuePresent l).checkFinal l
      · exact ((h.stopTimer l _).modLane l _).placeTold _ _ _
      · exact (h.stopTimer l _).modLane l _
  · exact h.takeKeptEvents l

theorem Kept.holdAfterDirection (h : Kept s t) (l : LaneId) : Kept s (t.holdAfterDirection l) := by
  unfold State.holdAfterDirection
  exact (Kept.ite ((Kept.ite h (h.enterHeld l)).beginTrouble l) (Kept.ite h (h.enterHeld l))).takeKeptEvents l

theorem Kept.giveBackGrant (h : Kept s t) (l : LaneId) (n : Nat) : Kept s (t.giveBackGrant l n) := by
  unfold State.giveBackGrant
  exact .ite ((h.modLane l _).giveUpAdmission n) h

theorem Kept.sendToYard (h : Kept s t) (l : LaneId) (n : Nat) : Kept s (t.sendToYard l n) := by
  unfold State.sendToYard
  exact .ite (h.beginSendOff l _ _) ((h.placeTold n _ _).enterHeld l)

theorem Kept.takeAssigned (h : Kept s t) (l : LaneId) (v : Visit) : Kept s (t.takeAssigned l v) := by
  unfold State.takeAssigned
  exact (Kept.ite (((h.giveBackGrant l _).giveUpBlocked l).sendToYard l _)
    ((h.giveBackGrant l _).enterHeld l)).takeKeptEvents l

theorem Kept.takeDirection (h : Kept s t) (l : LaneId) (a : DirectionAnswer) : Kept s (t.takeDirection l a) := by
  unfold State.takeDirection
  refine .ite ?_ h
  split
  · exact h
  · exact .ite (h.takeAssigned l _) (h.holdAfterDirection l)

/-! ### Release, faults, inputs -/

theorem Kept.endRelease (h : Kept s t) (l : LaneId) : Kept s (t.endRelease l) :=
  ((h.stopTimer l _).orderWithdrawal l).enterIdle l

theorem Kept.tailgate (h : Kept s t) (l : LaneId) : Kept s (t.tailgate l) := by
  unfold State.tailgate
  dsimp only
  split
  · exact (h.enterFault l _).writeVisit _ _ _
  · exact h.enterFault l _

theorem Kept.approachEvent (h : Kept s t) (l : LaneId) (o : Bool) : Kept s (t.approachEvent l o) := by
  unfold State.approachEvent
  dsimp only
  split
  · exact .ite (h.enterApproach l) (h.modLane l _)
  · exact .ite (.ite (h.enterApproach l) h) (h.modLane l _)
  · exact .ite h (h.modLane l _)
  · exact .ite (h.modLane l _) h

theorem Kept.stopEvent (h : Kept s t) (l : LaneId) (o : Bool) : Kept s (t.stopEvent l o) := by
  unfold State.stopEvent
  dsimp only
  split
  · exact .ite (h.takeStop l) h
  · exact .ite (h.takeStop l) h
  · exact .ite (((h.leaveSlotWait l).queueMsg l _).modLane l _) h
  · exact h.modLane l _
  · exact h

theorem Kept.boomEvent (h : Kept s t) (l : LaneId) (o : Bool) : Kept s (t.boomEvent l o) := by
  unfold State.boomEvent
  exact .ite (.ite (.ite (h.tailgate l) h) (.ite (h.endRelease l) h)) h

theorem Kept.exitEvent (h : Kept s t) (l : LaneId) (o : Bool) : Kept s (t.exitEvent l o) := by
  unfold State.exitEvent
  exact .ite (.ite (h.modLane l _) ((h.modLane l _).endRelease l)) h

theorem Kept.boomUpEvent (h : Kept s t) (l : LaneId) (o : Bool) : Kept s (t.boomUpEvent l o) := by
  unfold State.boomUpEvent
  refine .ite (.ite ((h.stopTimer l _).completeRaise l) h) ?_
  split
  · exact h
  · exact .ite (h.enterFault l _) h

theorem Kept.laneEvent (h : Kept s t) (l : LaneId) (i : Input) (a : Bool) : Kept s (t.laneEvent l i a) := by
  unfold State.laneEvent
  refine .ite h ?_
  split
  · exact h.approachEvent l a
  · exact h.stopEvent l a
  · exact h.boomEvent l a
  · exact h.exitEvent l a
  · exact h.modLane l _
  · exact h.boomUpEvent l a

/-! ### Messages, notices, expiries -/

theorem Kept.placeClerk (h : Kept s t) (n : Nat) : Kept s (t.placeClerk n) := h.placeTold n _ _

theorem Kept.pressHelp (h : Kept s t) (l : LaneId) : Kept s (t.pressHelp l) := by
  unfold State.pressHelp
  dsimp only
  split
  · exact h
  · split
    · refine ((Kept.ite (Kept.placeTold ?_ _ _ _) ?_).enterHeld l).offerTrouble l <;>
        exact ((h.stopTimer l _).modLane l _).placeClerk _
    · exact h.placeClerk _
    · exact (h.placeClerk _).offerTrouble l
    · split
      · exact (Kept.ite ((h.placeClerk _).returnToHeld l) (h.placeClerk _)).offerTrouble l
      · exact h.placeClerk _
      · exact h.placeClerk _
      · exact h
    · exact .ite (h.placeClerk _) h
    · exact h

theorem Kept.pressCancel (h : Kept s t) (l : LaneId) : Kept s (t.pressCancel l) := by
  unfold State.pressCancel
  dsimp only
  split
  · exact h.modLane l _
  · exact .ite (h.beginSendOff l _ _) h
  · exact h.queuePresent l
  · exact h

theorem Kept.actMessage (h : Kept s t) (l : LaneId) (m : InMsg) : Kept s (t.actMessage l m) := by
  have entry : ∀ e, Kept s (match (t.lane l).state, (t.lane l).visit with
      | .identify, none => t.modLane l fun x => { x with pendingEntry := some e }
      | .identify, some n => if (t.claimedRefs n).isEmpty then t.entryArrives l n e else t
      | _, _ => t) := by
    intro e
    split
    · exact h.modLane l _
    · exact .ite (h.entryArrives l _ e) h
    · exact h
  unfold State.actMessage
  dsimp only
  split
  · exact entry _
  · exact entry _
  · split
    · exact h.takeSealRead _ _ _ _
    · exact h
  · refine .ite ?_ h
    split
    · exact .ite (h.queuePresent l) (h.queuePrompt l _ _)
    · exact h
  · exact h.pressHelp l
  · exact h.pressCancel l
  · exact .ite (h.queuePresent l) h
  · exact h

theorem Kept.laneMessage (h : Kept s t) (l : LaneId) (m : InMsg) : Kept s (t.laneMessage l m) := by
  unfold State.laneMessage
  exact .ite h (h.actMessage l m)

theorem Kept.tellOnline (h : Kept s t) (l : LaneId) : Kept s (t.tellOnline l) := by
  unfold State.tellOnline
  refine .ite h ?_
  dsimp only
  split
  · split
    · exact .ite ((h.queuePresent l).queueTicket l) (.ite (h.queuePresent l) ((h.queuePresent l).queueMsg l _))
    · exact h.queuePresent l
  · exact h.queuePresent l

theorem Kept.acceptMsg (h : Kept s t) (l : LaneId) (m : InMsg) : Kept s (t.acceptMsg l m) := by
  unfold State.acceptMsg
  split
  · exact (h.modLink l _).tellOnline l
  · exact .ite (h.setLinkFlags l _) (.ite (h.modLink l _) (h.laneMessage l _))

theorem Kept.timerExpired (h : Kept s t) (l : LaneId) (k : TimerId) : Kept s (t.timerExpired l k) := by
  unfold State.timerExpired
  dsimp only
  have g := h.stopTimer l k
  split
  · exact .ite (g.enterFault l _) g
  · split
    · exact .ite (g.actExpiry l _) (g.modLane l _)
    · exact g
  · exact .ite (g.offerTrouble l) g
  · exact .ite (g.enterFault l _) g
  · exact g.closeSealWindow l
  · exact g.checkFinal l

/-! ### Stop-all and resumption -/

theorem Kept.applyStopMode (h : Kept s t) (l : LaneId) : Kept s (t.applyStopMode l) := by
  unfold State.applyStopMode
  split
  · exact h
  · exact h.orderWithdrawal l

theorem Kept.stopLane (h : Kept s t) (l : LaneId) : Kept s (t.stopLane l) := by
  unfold State.stopLane
  exact .ite h (.ite (h.applyStopMode l) ((h.modLane l _).applyStopMode l))

theorem Kept.beginStop (h : Kept s t) : Kept s t.beginStop := h.flagStopAll.foldl _ fun _ l k => k.stopLane l

theorem Kept.resumeInput (h : Kept s t) (l : LaneId) (v : Vector Bool 6) (i : Input) :
    Kept s (State.resumeInput l v t i) := by
  unfold State.resumeInput
  exact .ite (h.laneEvent l i _) h

theorem Kept.takeKept (h : Kept s t) (l : LaneId) (a : KeptAnswer) : Kept s (State.takeKept l t a) := by
  unfold State.takeKept
  split
  · exact h.takeUpVisit l
  · exact h.takeSearch l _
  · exact h.takeClaim l _
  · exact h.takeDirection l _
  · exact h.takeGrant l
  · exact h.takeTicketReport l _
  · exact h.takeChecksFinal l
  · exact h.takeRedirected l
  · exact h.takeStagingFull l _

theorem Kept.lookAtHolds (h : Kept s t) (l : LaneId) : Kept s (t.lookAtHolds l) := by
  unfold State.lookAtHolds
  split
  · exact .ite (h.laneHoldEmptied l) (h.laneHoldGained l)
  · exact h

theorem Kept.searchPlate (h : Kept s t) (l : LaneId) : Kept s (t.searchPlate l) := by
  unfold State.searchPlate
  dsimp only
  split
  · split
    · exact .ite (h.startRequest l _) h
    · exact h
  · exact h

theorem Kept.resumeLane (h : Kept s t) (l : LaneId) : Kept s (t.resumeLane l) := by
  unfold State.resumeLane
  split
  · exact h
  · dsimp only
    rename_i r _
    have a := h.modLane l fun x =>
      { x with
        state := r.state, remembered := none, timers := x.timers.map Timer.resume
        parkRef := if r.state = .idle ∨ r.state = .parked then some t.now else x.parkRef }
    have b : ∀ c : Bool, Kept s (allInputs.foldl (State.resumeInput l r.levels)
        (if c then (t.modLane l _).orderRaise l else t.modLane l _)) := fun c =>
      Kept.foldl (.ite (a.orderRaise l) a) _ fun _ i k => k.resumeInput l _ i
    have c : ∀ (u : State) (p : Prop) [Decidable p], Kept s u → Kept s (if p then u.tailgate l else u) :=
      fun _ _ _ k => .ite (k.tailgate l) k
    have d : ∀ (u : State) (ks : List KeptAnswer), Kept s u →
        Kept s (ks.foldl (State.takeKept l) (u.modLane l fun x => { x with keptAnswers := [] })) :=
      fun _ ks k => (k.modLane l _).foldl ks fun _ x g => g.takeKept l x
    have e : ∀ (u : State) (m : Option InMsg), Kept s u → Kept s (match m with
        | some m => u.laneMessage l m
        | none => u) := by
      intro u m k
      split
      · exact k.laneMessage l _
      · exact k
    have f : ∀ u : State, Kept s u → Kept s (if ((u.lookAtHolds l).searchPlate l |>.lane l).link.online then
        ((u.lookAtHolds l).searchPlate l).queuePresent l else (u.lookAtHolds l).searchPlate l) := fun _ k =>
      .ite (((k.lookAtHolds l).searchPlate l).queuePresent l) ((k.lookAtHolds l).searchPlate l)
    exact f _ (e _ _ (Kept.dropHeldMessage (d _ _ (c _ _ (b _))) l))

theorem Kept.closeLane (h : Kept s t) (l : LaneId) : Kept s (t.closeLane l) := by
  unfold State.closeLane
  dsimp only
  split
  · exact h
  · exact h.enterClosed l
  · exact h.enterClosed l
  · exact .ite ((h.leaveSlotWait l).enterClosed l) (h.modLane l _)
  · split
    · exact .ite (h.enterClosed l) (h.modLane l _)
    · exact h.modLane l _
  · exact h.modLane l _

theorem Kept.forceClose (h : Kept s t) (l : LaneId) : Kept s (t.forceClose l).1 := by
  unfold State.forceClose
  dsimp only
  have k := ((h.modLane l fun x => { x with request := .none, keptAnswers := [] }).leaveSlotWait l).giveUpBlocked l
  split
  · exact ((((k.beginEnding _ _).orderWithdrawal l).queueMsg l _).enterClosed l).modLane l _
  · exact (((k.orderWithdrawal l).queueMsg l _).enterClosed l).modLane l _

theorem Kept.recoverJam (h : Kept s t) (l : LaneId) (n : Nat) : Kept s (t.recoverJam l n) := by
  unfold State.recoverJam
  split
  · exact h.enterHeld l
  · exact .ite (h.beginSendOff l _ _) (.ite (h.enterHeld l) (h.sendToYard l n))

theorem Kept.recoverLane {u : State} (h : Kept s t) (l : LaneId) (e : t.recoverLane l = some u) : Kept s u := by
  unfold State.recoverLane at e
  dsimp only at e
  split at e
  · split at e
    · cases e
    · cases e
      exact h.resumeLane l
  · split at e
    · split at e
      · cases e
        exact h.recoverJam l _
      · cases e
    · split at e
      · cases e
        exact h.enterIdle l
      · cases e
  · cases e

/-! ### Events of links and inputs -/

theorem Kept.receiveMsg (h : Kept s t) (l : LaneId) (m : InMsg) : Kept s (t.receiveMsg l m) := by
  unfold State.receiveMsg
  refine .ite ?_ h
  split
  · exact (h.modLink l _).acceptMsg l _
  · exact h.rxFault l _

theorem Kept.breakSeen (h : Kept s t) (l : LaneId) : Kept s (t.breakSeen l) := by
  unfold State.breakSeen
  refine .ite ?_ ((h.modLink l _).setLinkFlags l _)
  exact ((((h.modLink l _).setLinkFlags l _).modLane l _).flagLinkOffline).reportTickets l _

theorem Kept.addChar (h : Kept s t) (l : LaneId) (b : Byte) : Kept s (t.addChar l b) := by
  unfold State.addChar
  refine .ite ((h.modLink l _).rxFault l _) (.ite ?_ (h.modLink l _))
  split
  · exact ((h.modLink l _).modLink l _).acceptMsg l _
  · exact (h.modLink l _).rxFault l _

theorem Kept.inputEvent (h : Kept s t) (l : LaneId) (i : Input) (a : Bool) : Kept s (t.inputEvent l i a) := by
  unfold State.inputEvent
  refine .ite ?_ h
  split
  · exact (h.setLane l _).laneEvent l i a
  · exact h

theorem Kept.rearmTreadle (h : Kept s t) (l : LaneId) : Kept s (t.rearmTreadle l) := by
  unfold State.rearmTreadle
  exact .ite (h.setLane l _) h

theorem Kept.expire (h : Kept s t) (l : LaneId) (k : TimerId) : Kept s (t.expire l k) := by
  unfold State.expire
  exact .ite (h.timerExpired l k) h

end Sys2Proof.Machine
end

