-- ==== Sys2Proof/Laws/Passing.lean ====
section
/-! SUPPORT. A lane in RELEASING stands as another visit begins to end: `Passing l v p s` says that lane l is in RELEASING,
binds v and last released p, and one lemma per shared operation says that it keeps so. -/

namespace Sys2Proof.Machine

/-- Lane l is in RELEASING, binds this visit or none, and last released this one. -/
structure Passing (l : LaneId) (v p : Option Nat) (s : State) : Prop where
  state : (s.lane l).state = .releasing
  visit : (s.lane l).visit = v
  last : (s.lane l).lastReleased = p

variable {l k : LaneId} {v p : Option Nat} {s t : State}

theorem Passing.of_lanes (h : Passing l v p s) (e : t.lanes = s.lanes) : Passing l v p t := by
  have : t.lane l = s.lane l := by unfold State.lane; rw [e]
  exact ⟨this ▸ h.1, this ▸ h.2, this ▸ h.3⟩

theorem Passing.other (h : Passing l v p s) (n : k ≠ l) (f : Lane → Lane) : Passing l v p (s.modLane k f) := by
  have : (s.modLane k f).lane l = s.lane l := s.lane_modLane_of_ne f n.symm
  exact ⟨this ▸ h.1, this ▸ h.2, this ▸ h.3⟩

theorem Passing.modLane (h : Passing l v p s) (k : LaneId) (f : Lane → Lane)
    (g : k = l → (f (s.lane l)).state = (s.lane l).state ∧ (f (s.lane l)).visit = (s.lane l).visit
      ∧ (f (s.lane l)).lastReleased = (s.lane l).lastReleased) : Passing l v p (s.modLane k f) := by
  by_cases n : k = l
  · subst n
    obtain ⟨a, b, c⟩ := g rfl
    exact ⟨by simp [a, h.1], by simp [b, h.2], by simp [c, h.3]⟩
  · exact h.other n f

theorem Passing.ite {c : Prop} [Decidable c] (h : Passing l v p s) (g : Passing l v p t) :
    Passing l v p (if c then s else t) := by split <;> assumption

theorem Passing.ne (h : Passing l v p s) (e : (s.lane k).state ≠ .releasing) : k ≠ l := fun c => e (c ▸ h.1)

/-! ### Updates that touch no lane -/

theorem Passing.modVisit (h : Passing l v p s) (n : Nat) (f : Visit → Visit) : Passing l v p (s.modVisit n f) :=
  h.of_lanes rfl

theorem Passing.mark (h : Passing l v p s) (n : Nat) (c : Cause) : Passing l v p (s.mark n c) := by
  unfold State.mark
  dsimp only
  exact .ite (.ite (h.of_lanes rfl) (h.of_lanes rfl)) h

theorem Passing.writeVisit (h : Passing l v p s) (n : Nat) (c : Cause) (f : Visit → Visit) :
    Passing l v p (s.writeVisit n c f) := by
  unfold State.writeVisit
  split
  · exact .ite h ((h.modVisit n f).mark n c)
  · exact h

theorem Passing.placeHold (h : Passing l v p s) (n : Nat) (r : HoldReason) (c : HoldSource) :
    Passing l v p (s.placeHold n r c).1 := by
  unfold State.placeHold
  split
  · exact h
  · split
    · exact h
    · split
      · exact (h.modVisit n _).mark n _
      · dsimp only
        split
        · exact (h.modVisit n _).mark n _
        · split
          · exact (h.modVisit n _).mark n _
          · exact h.mark n _

theorem Passing.dropHold (h : Passing l v p s) (n : Nat) (r : HoldReason) : Passing l v p (s.dropHold n r).1 := by
  unfold State.dropHold
  split
  · exact h
  · split
    · exact h
    · exact (h.modVisit n _).mark n _

theorem Passing.closeUnopened (h : Passing l v p s) (n : Nat) : Passing l v p (s.closeUnopened n) := by
  unfold State.closeUnopened
  split
  · refine .ite ?_ h
    exact .ite ((h.writeVisit n _ _).placeHold n _ _) (h.writeVisit n _ _)
  · exact h

theorem Passing.refreshReady (h : Passing l v p s) (d : DeskId) : Passing l v p (s.refreshReady d) := by
  unfold State.refreshReady
  split
  · split
    · exact h.of_lanes rfl
    · exact h
  · exact h

theorem Passing.queueVisit (h : Passing l v p s) (n : Nat) : Passing l v p (s.queueVisit n) := by
  have g := (h.of_lanes (t := { s with td := s.td.enqueue n }) rfl).writeVisit n .stage fun v =>
    { v with stage := .queued, lane := none }
  unfold State.queueVisit
  dsimp only
  split
  · exact .ite (g.placeHold n _ _) g
  · exact g

/-! ### Operations on another lane -/

theorem Passing.queueMsg (h : Passing l v p s) (n : k ≠ l) (m : OutMsg) : Passing l v p (s.queueMsg k m) := by
  unfold State.queueMsg State.modLink
  exact h.other n _

theorem Passing.stopTimer (h : Passing l v p s) (n : k ≠ l) (i : TimerId) : Passing l v p (s.stopTimer k i) := h.other n _

theorem Passing.startTimer (h : Passing l v p s) (n : k ≠ l) (i : TimerId) (c : Nat) :
    Passing l v p (s.startTimer k i c) := h.other n _

theorem Passing.freshTicket (h : Passing l v p s) (n : k ≠ l) : Passing l v p (s.freshTicket k).1 := by
  unfold State.freshTicket
  dsimp only
  split
  · split
    · dsimp only
      exact (h.other n _).queueMsg n _
    · exact h
  · exact h

theorem Passing.queueTicket (h : Passing l v p s) (n : k ≠ l) : Passing l v p (s.queueTicket k).1 := by
  unfold State.queueTicket
  split
  · split
    · exact (h.queueMsg n _).freshTicket n
    · exact h
  · exact h

theorem Passing.startSendOff (h : Passing l v p s) (n : k ≠ l) (d : Dest) (m : Option Nat) :
    Passing l v p (s.startSendOff k d m).1 := by
  unfold State.startSendOff
  dsimp only
  split
  · dsimp only
    exact (h.other n _).queueMsg n _
  · exact ((h.other n _).queueMsg n _).queueTicket n

theorem Passing.startRaise (h : Passing l v p s) (n : k ≠ l) : Passing l v p (s.startRaise k).1 := by
  unfold State.startRaise
  dsimp only
  split
  · exact (h.other n _).stopTimer n _
  · exact (h.other n _).startTimer n _ _

theorem Passing.enterReleasing (h : Passing l v p s) (n : k ≠ l) : Passing l v p (s.enterReleasing k) := by
  unfold State.enterReleasing
  exact (((h.other n _).stopTimer n _).stopTimer n _).startTimer n _ _

theorem Passing.completeTrouble (h : Passing l v p s) (n : k ≠ l) : Passing l v p (s.completeTrouble k) := by
  unfold State.completeTrouble
  split
  · exact h
  · exact Passing.enterReleasing (.ite (h.queueVisit _) h) n

theorem Passing.beginTrouble (h : Passing l v p s) (n : k ≠ l) : Passing l v p (s.beginTrouble k) := by
  unfold State.beginTrouble
  split
  · exact h
  · dsimp only
    refine .ite (.ite (Passing.completeTrouble (Passing.startRaise ?_ n) n) (Passing.startRaise ?_ n)) ?_ <;>
      exact (((h.other n _).closeUnopened _).writeVisit _ _ _).startSendOff n _ _

theorem Passing.enterHeld (h : Passing l v p s) (n : k ≠ l) : Passing l v p (s.enterHeld k) := by
  unfold State.enterHeld
  dsimp only
  unfold State.queuePrompt
  exact Passing.queueMsg (Passing.ite (h.other n _) ((h.other n _).startTimer n _ _)) n _

theorem Passing.cancelRaise (h : Passing l v p s) (n : k ≠ l) : Passing l v p (s.cancelRaise k) := by
  unfold State.cancelRaise
  split
  · exact .ite ((h.other n _).other n _) h
  · exact h

/-! ### Operations that find their lane: none of them changes one in RELEASING -/

theorem Passing.handGrant (h : Passing l v p s) (k : LaneId) : Passing l v p (s.handGrant k) := by
  unfold State.handGrant
  refine .ite (h.modLane k _ fun _ => ⟨rfl, rfl, rfl⟩) (.ite (h.modLane k _ fun _ => ⟨rfl, rfl, rfl⟩) ?_)
  unfold State.takeGrant
  dsimp only
  split
  · rename_i c
    have n := h.ne (k := k) (by rw [c.1]; decide)
    exact .ite (h.other n _) (h.beginTrouble n)
  · exact h

theorem Passing.grantPlace (h : Passing l v p s) : Passing l v p s.grantPlace := by
  unfold State.grantPlace
  split
  · exact h
  · refine .ite h ?_
    split
    · exact h
    · refine Passing.handGrant (Passing.modLane ?_ _ _ fun _ => ⟨rfl, rfl, rfl⟩) _
      unfold State.flagTroubleFull
      refine Passing.of_lanes h ?_
      dsimp only
      split <;> rfl

theorem Passing.giveUpAdmission (h : Passing l v p s) (n : Nat) : Passing l v p (s.giveUpAdmission n) := by
  unfold State.giveUpAdmission
  exact .ite (Passing.grantPlace (h.of_lanes rfl)) h

theorem Passing.laneHoldEmptied (h : Passing l v p s) (k : LaneId) : Passing l v p (s.laneHoldEmptied k) := by
  unfold State.laneHoldEmptied
  dsimp only
  split
  · rename_i c
    exact h.other (h.ne (by rw [c]; decide)) _
  · rename_i c _
    have n := h.ne (k := k) (by rw [c]; decide)
    refine .ite ?_ h
    split
    · exact h
    · exact ((((((h.other n _).giveUpAdmission _).cancelRaise n).queueMsg n _).writeVisit _ _ _).enterHeld n).other n _
  · exact h

theorem Passing.laneHoldGained (h : Passing l v p s) (k : LaneId) : Passing l v p (s.laneHoldGained k) := by
  unfold State.laneHoldGained
  dsimp only
  split
  · rename_i c _
    have n := h.ne (k := k) (by rw [c]; decide)
    exact .ite (Passing.enterHeld ((h.cancelRaise n).queueMsg n _) n) h
  · exact h

theorem Passing.tellHolds (h : Passing l v p s) (n : Nat) (g : Bool) : Passing l v p (s.tellHolds n g) := by
  unfold State.tellHolds
  split
  · exact h
  · split
    · exact .ite h (.ite (h.laneHoldEmptied _) (.ite (h.laneHoldGained _) h))
    · exact h.refreshReady _
    · exact h

theorem Passing.releaseTold (h : Passing l v p s) (n : Nat) (r : HoldReason) : Passing l v p (s.releaseTold n r).1 := by
  unfold State.releaseTold
  split
  · exact h
  · split
    · exact (h.dropHold n r).tellHolds n _
    · exact h

theorem Passing.retryOne (h : Passing l v p s) (n : Nat) : Passing l v p (s.retryOne n) := by
  unfold State.retryOne
  refine .ite h ?_
  split
  · exact h
  · refine .ite h ?_
    split
    · unfold State.assignDone
      dsimp only
      have g : ∀ b i c f, Passing l v p ((State.writeVisit { s with yd := { s.yd with blocks := b } } i c f).leaveWaitList i) :=
        fun b i c f => Passing.of_lanes
          (Passing.writeVisit (h.of_lanes (t := { s with yd := { s.yd with blocks := b } }) rfl) i c f) rfl
      exact .ite (Passing.releaseTold (g _ _ _ _) _ _) (g _ _ _ _)
    · exact h.of_lanes rfl

/-- A lane in RELEASING stays so, with its visit and its last released visit, as a visit begins to end. -/
theorem Passing.beginEnding (h : Passing l v p s) (n : Nat) (e : EndKind) : Passing l v p (s.beginEnding n e) := by
  unfold State.beginEnding State.endMoves
  split
  · exact h.modVisit n _
  · dsimp only
    have g : ∀ b f, Passing l v p (State.modVisit { (s.modVisit n fun v => { v with ending := some e }) with
        yd := { s.yd with blocks := b } } n f) := fun b f => h.of_lanes rfl
    have m : ∀ b f (c : Bool), Passing l v p ((if c = true then
          State.modVisit { (s.modVisit n fun v => { v with ending := some e }) with yd := { s.yd with blocks := b } } n f
        else (State.modVisit { (s.modVisit n fun v => { v with ending := some e }) with yd := { s.yd with blocks := b } } n
          f).mark n .direction).leaveWaitList n) :=
      fun b f c => Passing.of_lanes (.ite (g b f) ((g b f).mark n _)) rfl
    refine .ite ?_ (m _ _ _)
    unfold State.retryWalk
    exact List.foldlRecOn _ _ (m _ _ _) fun u q a _ => Passing.retryOne q a

/-- The visit of a completed BACK send-off is bound in RELEASING until its bookings step (R146). -/
theorem Passing.turnBack (h : Passing l v p s) (n : Nat) : Passing l (some n) p (s.turnBack l n) := by
  unfold State.turnBack State.owe
  exact Passing.beginEnding (⟨by simp [h.1], by simp, by simp [h.3]⟩) n _

theorem Passing.of_enterReleasing (s : State) (l : LaneId) : Passing l none (s.lane l).visit (s.enterReleasing l) := by
  unfold State.enterReleasing State.startTimer State.stopTimer
  constructor <;> simp [Lane.setTimer]

end Sys2Proof.Machine
end

