-- ==== Sys2Proof/Laws/PerInstr.lean ====
section
/-! SUPPORT. A statement about each command as syntax: a row of the table of 11.5 has a command frame that opens with
its place in that table and its tag (R207); any other row is no frame of the Control Port and has none. -/

namespace Sys2Proof.Laws.FrameTag

open Sys2Proof.Machine

/-- A command of the port is framed as its code from 1 to 43, its tag, the two-byte length of its payload, the payload
and a check byte that brings the sum of the bytes to 0; any other row has no frame. -/
def Statement (c : Instr) : Prop :=
  match codeOf c with
  | some k => 1 ≤ k ∧ k ≤ 43 ∧ (encode c).length = (payloadOf c).length + 5
      ∧ (encode c).take 2 = [BitVec.ofNat 8 k, tagOf c] ∧ byteSum (encode c) = 0
  | none => encode c = [] ∧ tagOf c = 0 ∧ payloadOf c = []

/-- The frame of any payload under a code. -/
theorem frame_shape (k : Nat) (tag : Byte) (payload : List Byte) :
    (frameOf k tag payload).length = payload.length + 5 ∧ (frameOf k tag payload).take 2 = [BitVec.ofNat 8 k, tag]
      ∧ byteSum (frameOf k tag payload) = 0 := by
  refine ⟨?_, ?_, ?_⟩
  · simp [frameOf, beBytes_length]
    omega
  · simp [frameOf]
  · simp [frameOf, byteSum, List.foldl_append]

/-- A row of the port. -/
theorem framed (c : Instr) (k : Nat) (h : codeOf c = some k) (hk : 1 ≤ k ∧ k ≤ 43) : Statement c := by
  have e : encode c = frameOf k (tagOf c) (payloadOf c) := by simp [encode, h]
  simp only [Statement, h, e]
  exact ⟨hk.1, hk.2, frame_shape k _ _⟩

theorem powerOnReset (laneCount1 laneCount0 : Bool) : Statement (.powerOnReset laneCount1 laneCount0) :=
  ⟨rfl, rfl, rfl⟩

theorem resetLine (laneCount1 laneCount0 : Bool) : Statement (.resetLine laneCount1 laneCount0) :=
  ⟨rfl, rfl, rfl⟩

theorem commandFrame (typeByte : Byte) (frame : List Byte) : Statement (.commandFrame typeByte frame) :=
  ⟨rfl, rfl, rfl⟩

theorem fetch (clocked : Nat) : Statement (.fetch clocked) :=
  ⟨rfl, rfl, rfl⟩

theorem timeSet (tag : Byte) (m : Nat) : Statement (.timeSet tag m) :=
  framed _ 1 rfl (by omega)

theorem timeSync (tag : Byte) (m : Nat) : Statement (.timeSync tag m) :=
  framed _ 2 rfl (by omega)

theorem catchUpStep : Statement (.catchUpStep) :=
  ⟨rfl, rfl, rfl⟩

theorem timeStatus (tag : Byte) : Statement (.timeStatus tag) :=
  framed _ 3 rfl (by omega)

theorem laneSecond : Statement (.laneSecond) :=
  ⟨rfl, rfl, rfl⟩

theorem internalMinuteTick : Statement (.internalMinuteTick) :=
  ⟨rfl, rfl, rfl⟩

theorem retirement : Statement (.retirement) :=
  ⟨rfl, rfl, rfl⟩

theorem windowAppend (tag : Byte) (start length cg cr : Nat) : Statement (.windowAppend tag start length cg cr) :=
  framed _ 4 rfl (by omega)

theorem windowResize (tag : Byte) (start : Nat) (cg cr : Option Nat) : Statement (.windowResize tag start cg cr) :=
  framed _ 5 rfl (by omega)

theorem windowRead (tag : Byte) (sel : WindowSel) : Statement (.windowRead tag sel) :=
  framed _ 6 rfl (by omega)

theorem bookAdd (tag : Byte) (b : NewBooking) : Statement (.bookAdd tag b) :=
  framed _ 7 rfl (by omega)

theorem bookAmend (tag : Byte) (ref : Text) (a : Amendment) : Statement (.bookAmend tag ref a) :=
  framed _ 8 rfl (by omega)

theorem bookCancel (tag : Byte) (ref : Text) : Statement (.bookCancel tag ref) :=
  framed _ 9 rfl (by omega)

theorem bookReinstate (tag : Byte) (ref : Text) : Statement (.bookReinstate tag ref) :=
  framed _ 10 rfl (by omega)

theorem bookFind (tag : Byte) (key : FindKey) : Statement (.bookFind tag key) :=
  framed _ 11 rfl (by omega)

theorem bookPurge (tag : Byte) (form : PurgeForm) : Statement (.bookPurge tag form) :=
  framed _ 12 rfl (by omega)

theorem carrierSet (tag : Byte) (code : Text) (action : CarrierAction) : Statement (.carrierSet tag code action) :=
  framed _ 13 rfl (by omega)

theorem bookSearch : Statement (.bookSearch) :=
  ⟨rfl, rfl, rfl⟩

theorem claim : Statement (.claim) :=
  ⟨rfl, rfl, rfl⟩

theorem admission : Statement (.admission) :=
  ⟨rfl, rfl, rfl⟩

theorem endingBookings : Statement (.endingBookings) :=
  ⟨rfl, rfl, rfl⟩

theorem holdPlace (tag : Byte) (visit : Nat) (reason : HoldReason) (desk : Option Nat) : Statement (.holdPlace tag visit reason desk) :=
  framed _ 27 rfl (by omega)

theorem holdRelease (tag : Byte) (visit : Nat) (reason : HoldReason) (desk : Option Nat) : Statement (.holdRelease tag visit reason desk) :=
  framed _ 28 rfl (by omega)

theorem visitClose (tag : Byte) (visit : Nat) : Statement (.visitClose tag visit) :=
  framed _ 30 rfl (by omega)

theorem takeChanged (tag : Byte) : Statement (.takeChanged tag) :=
  framed _ 26 rfl (by omega)

theorem visitRead (tag : Byte) (sel : VisitSel) : Statement (.visitRead tag sel) :=
  framed _ 25 rfl (by omega)

theorem laneConfig (tag : Byte) (lane : Nat) (c : LaneConfigOp) : Statement (.laneConfig tag lane c) :=
  framed _ 14 rfl (by omega)

theorem laneOpen (tag : Byte) (lane : Nat) : Statement (.laneOpen tag lane) :=
  framed _ 15 rfl (by omega)

theorem laneClose (tag : Byte) (lane : Nat) : Statement (.laneClose tag lane) :=
  framed _ 16 rfl (by omega)

theorem laneCloseForce (tag : Byte) (lane : Nat) : Statement (.laneCloseForce tag lane) :=
  framed _ 16 rfl (by omega)

theorem laneRecover (tag : Byte) (lane : Nat) : Statement (.laneRecover tag lane) :=
  framed _ 17 rfl (by omega)

theorem laneStatus (tag : Byte) (lane : Nat) (clear : LinkMask) : Statement (.laneStatus tag lane clear) :=
  framed _ 18 rfl (by omega)

theorem plateReport (tag : Byte) (lane : Nat) (plate : Text) : Statement (.plateReport tag lane plate) :=
  framed _ 19 rfl (by omega)

theorem sealReport (tag : Byte) (visit : Nat) (sealNo : Text) (slot : Option Nat) : Statement (.sealReport tag visit sealNo slot) :=
  framed _ 20 rfl (by omega)

theorem sealReportVoid (tag : Byte) (visit : Nat) (sealNo : Text) (slot : Option Nat) : Statement (.sealReportVoid tag visit sealNo slot) :=
  framed _ 20 rfl (by omega)

theorem damageReport (tag : Byte) (visit : Nat) (slot : Option Nat) (findings : List Finding) : Statement (.damageReport tag visit slot findings) :=
  framed _ 21 rfl (by omega)

theorem damageDone (tag : Byte) (visit : Nat) : Statement (.damageDone tag visit) :=
  framed _ 22 rfl (by omega)

theorem stopAllSet (tag : Byte) : Statement (.stopAllSet tag) :=
  framed _ 23 rfl (by omega)

theorem stopAllClear (tag : Byte) : Statement (.stopAllClear tag) :=
  framed _ 24 rfl (by omega)

theorem blockSet (tag : Byte) (block : Nat) (b : BlockSetOp) : Statement (.blockSet tag block b) :=
  framed _ 31 rfl (by omega)

theorem blockConfirm (tag : Byte) (visit position : Nat) : Statement (.blockConfirm tag visit position) :=
  framed _ 29 rfl (by omega)

theorem blockRead (tag : Byte) (sel : BlockSel) : Statement (.blockRead tag sel) :=
  framed _ 32 rfl (by omega)

theorem assignment (lane : LaneId) : Statement (.assignment lane) :=
  ⟨rfl, rfl, rfl⟩

theorem deskTake (tag : Byte) (desk : Nat) : Statement (.deskTake tag desk) :=
  framed _ 33 rfl (by omega)

theorem deskRetry (tag : Byte) (desk : Nat) : Statement (.deskRetry tag desk) :=
  framed _ 34 rfl (by omega)

theorem deskRebook (tag : Byte) (desk : Nat) (ref : Text) (start : Nat) : Statement (.deskRebook tag desk ref start) :=
  framed _ 35 rfl (by omega)

theorem deskSend (tag : Byte) (desk : Nat) : Statement (.deskSend tag desk) :=
  framed _ 36 rfl (by omega)

theorem deskTurnBack (tag : Byte) (desk : Nat) : Statement (.deskTurnBack tag desk) :=
  framed _ 37 rfl (by omega)

theorem deskReturn (tag : Byte) (desk : Nat) : Statement (.deskReturn tag desk) :=
  framed _ 38 rfl (by omega)

theorem settingsWrite (tag : Byte) (w : SettingsOp) : Statement (.settingsWrite tag w) :=
  framed _ 39 rfl (by omega)

theorem settingsRead (tag : Byte) : Statement (.settingsRead tag) :=
  framed _ 40 rfl (by omega)

theorem gateStatus (tag : Byte) (clear : GateMask) : Statement (.gateStatus tag clear) :=
  framed _ 41 rfl (by omega)

theorem clearFault (tag : Byte) : Statement (.clearFault tag) :=
  framed _ 42 rfl (by omega)

theorem gateReset (tag : Byte) : Statement (.gateReset tag) :=
  framed _ 43 rfl (by omega)

theorem approachOccupy (lane : LaneId) : Statement (.approachOccupy lane) :=
  ⟨rfl, rfl, rfl⟩

theorem approachVacate (lane : LaneId) : Statement (.approachVacate lane) :=
  ⟨rfl, rfl, rfl⟩

theorem stopOccupy (lane : LaneId) : Statement (.stopOccupy lane) :=
  ⟨rfl, rfl, rfl⟩

theorem stopVacate (lane : LaneId) : Statement (.stopVacate lane) :=
  ⟨rfl, rfl, rfl⟩

theorem boomOccupy (lane : LaneId) : Statement (.boomOccupy lane) :=
  ⟨rfl, rfl, rfl⟩

theorem boomVacate (lane : LaneId) : Statement (.boomVacate lane) :=
  ⟨rfl, rfl, rfl⟩

theorem exitOccupy (lane : LaneId) : Statement (.exitOccupy lane) :=
  ⟨rfl, rfl, rfl⟩

theorem exitVacate (lane : LaneId) : Statement (.exitVacate lane) :=
  ⟨rfl, rfl, rfl⟩

theorem pulse (lane : LaneId) : Statement (.pulse lane) :=
  ⟨rfl, rfl, rfl⟩

theorem up (lane : LaneId) : Statement (.up lane) :=
  ⟨rfl, rfl, rfl⟩

theorem down (lane : LaneId) : Statement (.down lane) :=
  ⟨rfl, rfl, rfl⟩

theorem levelChange (lane : LaneId) (input : Input) (active : Bool) : Statement (.levelChange lane input active) :=
  ⟨rfl, rfl, rfl⟩

theorem stopOn : Statement (.stopOn) :=
  ⟨rfl, rfl, rfl⟩

theorem stopOff : Statement (.stopOff) :=
  ⟨rfl, rfl, rfl⟩

theorem raiseLimitExpiry (lane : LaneId) : Statement (.raiseLimitExpiry lane) :=
  ⟨rfl, rfl, rfl⟩

theorem pedestalLimitExpiry (lane : LaneId) : Statement (.pedestalLimitExpiry lane) :=
  ⟨rfl, rfl, rfl⟩

theorem holdLimitExpiry (lane : LaneId) : Statement (.holdLimitExpiry lane) :=
  ⟨rfl, rfl, rfl⟩

theorem clearLimitExpiry (lane : LaneId) : Statement (.clearLimitExpiry lane) :=
  ⟨rfl, rfl, rfl⟩

theorem sealWindowExpiry (lane : LaneId) : Statement (.sealWindowExpiry lane) :=
  ⟨rfl, rfl, rfl⟩

theorem damageWindowExpiry (lane : LaneId) : Statement (.damageWindowExpiry lane) :=
  ⟨rfl, rfl, rfl⟩

theorem card (lane : LaneId) (card : Text) : Statement (.card lane card) :=
  ⟨rfl, rfl, rfl⟩

theorem keyedRef (lane : LaneId) (ref : Text) : Statement (.keyedRef lane ref) :=
  ⟨rfl, rfl, rfl⟩

theorem keyedContainer (lane : LaneId) (container : Text) (slot : Option Nat) : Statement (.keyedContainer lane container slot) :=
  ⟨rfl, rfl, rfl⟩

theorem sealRead (lane : LaneId) (sealNo : Text) (slot : Option Nat) : Statement (.sealRead lane sealNo slot) :=
  ⟨rfl, rfl, rfl⟩

theorem press (lane : LaneId) (key : Key) : Statement (.press lane key) :=
  ⟨rfl, rfl, rfl⟩

theorem kioskHello (lane : LaneId) : Statement (.kioskHello lane) :=
  ⟨rfl, rfl, rfl⟩

theorem messageFault (lane : LaneId) (fault : MsgFault) : Statement (.messageFault lane fault) :=
  ⟨rfl, rfl, rfl⟩

theorem gapLimit (lane : LaneId) : Statement (.gapLimit lane) :=
  ⟨rfl, rfl, rfl⟩

theorem lineBreak (lane : LaneId) : Statement (.lineBreak lane) :=
  ⟨rfl, rfl, rfl⟩

theorem breakEnd (lane : LaneId) : Statement (.breakEnd lane) :=
  ⟨rfl, rfl, rfl⟩

theorem ctsAssert (lane : LaneId) : Statement (.ctsAssert lane) :=
  ⟨rfl, rfl, rfl⟩

theorem messageSent (lane : LaneId) : Statement (.messageSent lane) :=
  ⟨rfl, rfl, rfl⟩

theorem characterReceived (lane : LaneId) (data : Byte) (parityBit stopBit : Bool) : Statement (.characterReceived lane data parityBit stopBit) :=
  ⟨rfl, rfl, rfl⟩

theorem ctsDeassert (lane : LaneId) : Statement (.ctsDeassert lane) :=
  ⟨rfl, rfl, rfl⟩

end Sys2Proof.Laws.FrameTag
end

