-- ==== Sys2Proof/Laws/Port.lean ====
section
/-! SUPPORT. The Control Port's flow: what becomes of a command, once for every command (R200, R201, R203, R24). -/

namespace Sys2Proof.Machine

variable {s : State} {tag : Byte} {cmd : Instr} {changing : Bool} {ready : State → Bool} {serve : State → State}

theorem State.portIdle.notFull (h : s.portIdle) : s.portFull = false := by
  simp only [State.portFull, State.placesTaken, h.1, decide_eq_false_iff_not]
  have := h.2
  simp only [Option.isSome_none, Bool.false_eq_true, if_false]
  omega

theorem State.portIdle.awaits (h : s.portIdle) (cmd : Instr) : s.awaits cmd = false := by
  simp [State.awaits, h.1]

/-- A command that is not yet the one in progress goes one of four ways. -/
theorem State.portCommand_new (h : s.awaits cmd = false) :
    s.portCommand tag cmd changing ready serve =
      if s.portFull then s.flagPortFault .responseLost
      else if s.cp.inProgress.isSome then s.respond tag .busy []
      else if changing && s.cp.flags.portFault then s.respond tag .portFault []
      else if ready (s.take tag cmd) then serve (s.take tag cmd) else s.take tag cmd := by
  simp [State.portCommand, h]

/-- A reading command on a free port is served. -/
theorem State.plainCommand_reading (h : s.portIdle) :
    s.plainCommand tag cmd false serve = serve (s.take tag cmd) := by
  simp [State.plainCommand, State.portCommand_new (h.awaits cmd), h.notFull, h.1]

/-- A command is served on a port that is free with PORT_FAULT clear. -/
theorem State.plainCommand_ready (h : s.portReady) :
    s.plainCommand tag cmd changing serve = serve (s.take tag cmd) := by
  simp [State.plainCommand, State.portCommand_new (h.1.awaits cmd), h.1.notFull, h.1.1, h.2]

/-- The grant with no retirement held. -/
theorem State.nextGrant_free (h : s.retirementHeld = false) : s.nextGrant = s.turn := by
  simp [State.nextGrant, h]

/-- What a claim that has the turn is: its lane has it, owes nothing, and asks for these refs for this visit. -/
theorem State.claimTurn_some {c : ClaimFirst} (h : s.claimTurn = some c) :
    s.turn = .lane c.lane ∧ (s.lane c.lane).owed = [] ∧ (s.lane c.lane).request = .claim c.refs
      ∧ (s.lane c.lane).visit = some c.visit := by
  unfold State.claimTurn at h
  split at h
  · rename_i l e
    split at h
    · rename_i a b d
      cases h
      exact ⟨e, a, b, d⟩
    · cases h
  · cases h

/-- A lane that goes before a held retirement waits with the claim that was noted, and no walk or settlement waits. -/
theorem State.laneAhead_some {l : LaneId} (h : s.laneAhead = some l) :
    ∃ c, s.be.claimAhead = some c ∧ c.lane = l ∧ (s.lane l).visit = some c.visit ∧ (s.lane l).owed = []
      ∧ (s.lane l).request = .claim c.refs ∧ s.tb.target = none := by
  unfold State.laneAhead at h
  split at h
  · rename_i c e
    split at h
    · rename_i g
      cases h
      simp only [State.stillClaims, Bool.and_eq_true, decide_eq_true_eq, List.isEmpty_iff, Option.isNone_iff_eq_none] at g
      exact ⟨c, e, rfl, g.1.1.1.1, g.1.1.1.2, g.1.1.2, g.1.2⟩
    · cases h
  · cases h

/-- With no retirement held and the port's turn, a command just taken is granted. -/
theorem State.portTurn.granted (h : s.portTurn) : (s.take tag cmd).nextGrant = .port := by
  have h2 : ∀ l, (s.take tag cmd).lane l = s.lane l := fun _ => rfl
  have h1 : (s.take tag cmd).retirementHeld = false := h.1
  have h3 : (s.take tag cmd).nextLane = s.nextLane := rfl
  have h4 : (s.take tag cmd).portWaitsBE = true := by simp [State.portWaitsBE]
  have h5 : (s.take tag cmd).be = s.be := rfl
  unfold State.nextGrant State.turn
  rw [h1, h4, h3, h5]
  rcases h.2 with e | e
  · simp [e]
  · cases s.nextLane <;> simp [e]

/-- A command of the Book Engine's port class at its turn, on a free port. -/
theorem State.engineCommand_reading (h : s.portIdle) (k : s.portTurn) :
    s.engineCommand tag cmd false serve = serve (s.take tag cmd).servePort := by
  simp [State.engineCommand, State.portCommand_new (h.awaits cmd), h.notFull, h.1, k.granted]

theorem State.engineCommand_ready (h : s.portReady) (k : s.portTurn) :
    s.engineCommand tag cmd changing serve = serve (s.take tag cmd).servePort := by
  simp [State.engineCommand, State.portCommand_new (h.1.awaits cmd), h.1.notFull, h.1.1, h.2, k.granted]

/-- Every command of the port goes through the port's flow, changing or not as its row is. -/
theorem exec_host (c : Instr) (h : (codeOf c).isSome) : ∃ (ready : State → Bool) (serve : State → State),
    ∀ s, exec c s = .next (s.portCommand (tagOf c) c (!readingRow c) ready serve) := by
  cases c
  case timeSet => apply Exists.intro; apply Exists.intro; intro s; unfold exec execTimeSet State.doTimeSet State.plainCommand; rfl
  case timeSync => apply Exists.intro; apply Exists.intro; intro s; unfold exec execTimeSync State.doTimeSync State.plainCommand; rfl
  case timeStatus => apply Exists.intro; apply Exists.intro; intro s; unfold exec execTimeStatus State.doTimeStatus State.plainCommand; rfl
  case windowAppend => apply Exists.intro; apply Exists.intro; intro s; unfold exec execWindowAppend State.doWindowAppend State.engineCommand; rfl
  case windowResize => apply Exists.intro; apply Exists.intro; intro s; unfold exec execWindowResize State.doWindowResize State.engineCommand; rfl
  case windowRead => apply Exists.intro; apply Exists.intro; intro s; unfold exec execWindowRead State.doWindowRead State.engineCommand; rfl
  case bookAdd => apply Exists.intro; apply Exists.intro; intro s; unfold exec execBookAdd State.doBookAdd State.engineCommand; rfl
  case bookAmend => apply Exists.intro; apply Exists.intro; intro s; unfold exec execBookAmend State.doBookAmend State.engineCommand; rfl
  case bookCancel => apply Exists.intro; apply Exists.intro; intro s; unfold exec execBookCancel State.doBookCancel State.engineCommand; rfl
  case bookReinstate => apply Exists.intro; apply Exists.intro; intro s; unfold exec execBookReinstate State.doBookReinstate State.engineCommand; rfl
  case bookFind => apply Exists.intro; apply Exists.intro; intro s; unfold exec execBookFind State.doBookFind State.engineCommand; rfl
  case bookPurge => apply Exists.intro; apply Exists.intro; intro s; unfold exec execBookPurge State.doBookPurge State.engineCommand; rfl
  case carrierSet => apply Exists.intro; apply Exists.intro; intro s; unfold exec execCarrierSet State.doCarrierSet State.engineCommand; rfl
  case holdPlace => apply Exists.intro; apply Exists.intro; intro s; unfold exec execHoldPlace State.doHoldPlace State.plainCommand; rfl
  case holdRelease => apply Exists.intro; apply Exists.intro; intro s; unfold exec execHoldRelease State.doHoldRelease State.plainCommand; rfl
  case visitClose => apply Exists.intro; apply Exists.intro; intro s; unfold exec execVisitClose State.doVisitClose State.plainCommand; rfl
  case takeChanged => apply Exists.intro; apply Exists.intro; intro s; unfold exec execTakeChanged State.doTakeChanged State.plainCommand; rfl
  case visitRead => apply Exists.intro; apply Exists.intro; intro s; unfold exec execVisitRead State.doVisitRead State.plainCommand; rfl
  case laneConfig => apply Exists.intro; apply Exists.intro; intro s; unfold exec execLaneConfig State.doLaneConfig State.plainCommand; rfl
  case laneOpen => apply Exists.intro; apply Exists.intro; intro s; unfold exec execLaneOpen State.doLaneOpen State.plainCommand; rfl
  case laneClose => apply Exists.intro; apply Exists.intro; intro s; unfold exec execLaneClose State.doLaneClose State.plainCommand; rfl
  case laneCloseForce => apply Exists.intro; apply Exists.intro; intro s; unfold exec execLaneCloseForce State.doLaneCloseForce State.plainCommand; rfl
  case laneRecover => apply Exists.intro; apply Exists.intro; intro s; unfold exec execLaneRecover State.doLaneRecover State.plainCommand; rfl
  case laneStatus => apply Exists.intro; apply Exists.intro; intro s; unfold exec execLaneStatus State.doLaneStatus State.plainCommand; dsimp only [readingRow]; rw [Bool.not_not]; rfl
  case plateReport => apply Exists.intro; apply Exists.intro; intro s; unfold exec execPlateReport State.doPlateReport State.plainCommand; rfl
  case sealReport => apply Exists.intro; apply Exists.intro; intro s; unfold exec execSealReport State.doSealReport State.plainCommand; rfl
  case sealReportVoid => apply Exists.intro; apply Exists.intro; intro s; unfold exec execSealReportVoid State.doSealVoid State.plainCommand; rfl
  case damageReport => apply Exists.intro; apply Exists.intro; intro s; unfold exec execDamageReport State.doDamageReport State.plainCommand; rfl
  case damageDone => apply Exists.intro; apply Exists.intro; intro s; unfold exec execDamageDone State.doDamageDone State.plainCommand; rfl
  case stopAllSet => apply Exists.intro; apply Exists.intro; intro s; unfold exec execStopAllSet State.doStopAllSet State.plainCommand; rfl
  case stopAllClear => apply Exists.intro; apply Exists.intro; intro s; unfold exec execStopAllClear State.doStopAllClear State.plainCommand; rfl
  case blockSet => apply Exists.intro; apply Exists.intro; intro s; unfold exec execBlockSet State.doBlockSet State.plainCommand; rfl
  case blockConfirm => apply Exists.intro; apply Exists.intro; intro s; unfold exec execBlockConfirm State.doBlockConfirm State.plainCommand; rfl
  case blockRead => apply Exists.intro; apply Exists.intro; intro s; unfold exec execBlockRead State.doBlockRead State.plainCommand; rfl
  case deskTake => apply Exists.intro; apply Exists.intro; intro s; unfold exec execDeskTake State.doDeskTake State.plainCommand; rfl
  case deskRetry => apply Exists.intro; apply Exists.intro; intro s; unfold exec execDeskRetry State.doDeskRetry State.plainCommand; rfl
  case deskRebook => apply Exists.intro; apply Exists.intro; intro s; unfold exec execDeskRebook State.doDeskRebook State.engineCommand; rfl
  case deskSend => apply Exists.intro; apply Exists.intro; intro s; unfold exec execDeskSend State.doDeskSend State.plainCommand; rfl
  case deskTurnBack => apply Exists.intro; apply Exists.intro; intro s; unfold exec execDeskTurnBack State.doDeskTurnBack State.plainCommand; rfl
  case deskReturn => apply Exists.intro; apply Exists.intro; intro s; unfold exec execDeskReturn State.doDeskReturn State.plainCommand; rfl
  case settingsWrite => apply Exists.intro; apply Exists.intro; intro s; unfold exec execSettingsWrite State.doSettingsWrite State.plainCommand; rfl
  case settingsRead => apply Exists.intro; apply Exists.intro; intro s; unfold exec execSettingsRead State.doSettingsRead State.plainCommand; rfl
  case gateStatus => apply Exists.intro; apply Exists.intro; intro s; unfold exec execGateStatus State.doGateStatus State.plainCommand; rfl
  case clearFault => apply Exists.intro; apply Exists.intro; intro s; unfold exec execClearFault State.doClearFault State.plainCommand; rfl
  case gateReset => apply Exists.intro; apply Exists.intro; intro s; unfold exec execGateReset State.doGateReset; rfl
  all_goals simp [codeOf] at h

/-- A frame's command goes the way of its row. -/
theorem exec_runHost (c : Instr) (h : (codeOf c).isSome) (s : State) : exec c s = .next (s.runHost c) := by
  cases c <;> simp only [codeOf, Option.isSome_some, Option.isSome_none, Bool.false_eq_true] at h <;> rfl

/-- Updates that leave the port alone commute with the taking of the command, so a served command that completes
is the update with its response. -/
theorem State.complete_of_take {t : State} (h : t.cp.inProgress = some { tag, cmd, phase := .waiting })
    (st : Status) (p : List Field) :
    t.complete st p = ({ t with cp := { t.cp with inProgress := none } }).respond tag st p := by
  simp [State.complete, h]

end Sys2Proof.Machine
end

