-- ==== Sys2Proof/Laws/Recover.lean ====
section
/-! SUPPORT. What LANE_RECOVER comes to: the resumption of a stopped lane for which nothing waits (R103, R152), and a BACK
send-off begun anew (R144, R153). -/

namespace Sys2Proof.Machine

variable {s : State} {l : LaneId}

/-! ### A resumption for which nothing waits -/

/-- An input whose filtered level is the one of the snapshot has no event at a resumption (R103 step 4). -/
theorem State.resumeInput_same {r : Vector Bool 6} (h : r = (s.lane l).filters.map (·.level)) (i : Input) :
    State.resumeInput l r s i = s := by
  subst h
  simp [State.resumeInput]

/-- Where no level has changed, step 4 of R103 has no event. -/
theorem State.resumeInputs_same {r : Vector Bool 6} (h : r = (s.lane l).filters.map (·.level)) (is : List Input) :
    is.foldl (State.resumeInput l r) s = s := by
  induction is with
  | nil => rfl
  | cons i is ih => rw [List.foldl_cons, State.resumeInput_same h, ih]

/-- A resumption ends with the present prompt, where the link is ONLINE (R152): only the link changes. -/
theorem State.present_link (s : State) (l : LaneId) :
    ∃ k, (if (s.lane l).link.online then s.queuePresent l else s) = s.modLane l fun x => { x with link := k } := by
  split
  · exact s.queueMsg_link l _
  · exact ⟨(s.lane l).link, (State.modLane_same rfl).symm⟩

/-- A lane looks at its hold list and does nothing but ask for a direction from HELD with none in flight. -/
theorem State.lookAtHolds_quiet
    (hh : (s.lane l).state = .held → (s.lane l).request = .none ∨
      ∀ v, (s.lane l).visit.bind s.writable? = some v → v.holds.isEmpty = false)
    (hd : (s.lane l).state = .directed → ∀ o, (s.lane l).sendOff = some o →
      ∀ v, (s.lane l).visit.bind s.writable? = some v →
        (o.dest = .yard → v.holds.isEmpty = true) ∧ (o.dest = .trouble → v.holds.isEmpty = false)) :
    s.lookAtHolds l = s.modLane l fun x =>
      { x with
        request := if (s.lane l).state = .held ∧ ((s.lane l).visit.bind s.writable?).any (·.holds.isEmpty) = true then
            .direction
          else x.request } := by
  unfold State.lookAtHolds
  cases hv : (s.lane l).visit.bind s.writable? with
  | none => exact (State.modLane_same (by simp)).symm
  | some v =>
    rw [hv] at hh hd
    dsimp only
    cases he : v.holds.isEmpty
    · rw [if_neg (by simp), State.modLane_same (f := fun x => _) (by simp [he])]
      unfold State.laneHoldGained
      dsimp only
      split
      · rename_i o st so
        split
        · rename_i dy
          exact absurd ((hd st o so v rfl).1 dy) (by simp [he])
        · rfl
      · rfl
    · rw [if_pos rfl]
      unfold State.laneHoldEmptied
      dsimp only
      split
      · rename_i st
        rcases hh st with e | e
        · unfold State.modLane; simp [st, e, he]
        · exact absurd (e v rfl) (by simp [he])
      · rename_i o st so
        split
        · rename_i dt
          exact absurd ((hd st o so v rfl).2 dt) (by simp [he])
        · exact (State.modLane_same (by rw [if_neg (fun c => by rw [st] at c; cases c.1)])).symm
      · rename_i n _
        exact (State.modLane_same (by rw [if_neg (fun c => n c.1)])).symm

/-- A lane that is not in IDENTIFY, or whose visit has no plate, searches none. -/
theorem State.searchPlate_quiet
    (h : (s.lane l).state = .identify → ((s.lane l).visit.bind s.visit?).bind (·.plate) = none) :
    s.searchPlate l = s := by
  unfold State.searchPlate
  dsimp only
  split
  · rename_i v st hv
    have := h st
    rw [hv] at this
    simp only [Option.bind_some] at this
    rw [this]
  · rfl

/-- The state a stopped lane remembers calls for no action at its resumption but, in HELD with an emptied hold list and no
request in flight, the request for a direction. -/
def State.resumesQuietly (s : State) (l : LaneId) (r : Remembered) : Bool :=
  let x := s.lane l
  let v := x.visit.bind s.writable?
  match r.state with
  | .identify => ((x.visit.bind s.visit?).bind (·.plate)).isNone
  | .held => x.request = .none || v.all fun v => !v.holds.isEmpty
  | .directed => x.sendOff.all fun o => !o.raiseOrdered && v.all fun v =>
      (decide (o.dest ≠ .yard) || v.holds.isEmpty) && (decide (o.dest ≠ .trouble) || !v.holds.isEmpty)
  | .releasing => decide (x.boomCount ≤ r.boomCount)
  | _ => true

/-- A resumption with no level changed, nothing kept and nothing called for takes the lane back to its state, its timers
running again; only its link changes besides, by the present prompt (R103, R152). -/
theorem State.resumeLane_quiet {r : Remembered} (h : (s.lane l).remembered = some r)
    (lv : r.levels = (s.lane l).filters.map (·.level)) (ka : (s.lane l).keptAnswers = [])
    (rx : (s.lane l).link.rxBuf = none) (q : s.resumesQuietly l r = true) :
    ∃ k, s.resumeLane l = s.modLane l fun x =>
      { x with
        state := r.state, remembered := none, timers := x.timers.map Timer.resume
        parkRef := if r.state = .idle ∨ r.state = .parked then some s.now else x.parkRef
        request := if r.state = .held ∧ ((x.visit.bind s.writable?).any (·.holds.isEmpty)) = true then .direction
          else x.request
        link := k } := by
  unfold State.resumeLane
  rw [h]
  dsimp only
  generalize hs1 : (s.modLane l fun x =>
      { x with
        state := r.state, remembered := none, timers := x.timers.map Timer.resume
        parkRef := if r.state = .idle ∨ r.state = .parked then some s.now else x.parkRef }) = s1
  have e1 : s1.lane l = { s.lane l with
        state := r.state, remembered := none, timers := (s.lane l).timers.map Timer.resume
        parkRef := if r.state = .idle ∨ r.state = .parked then some s.now else (s.lane l).parkRef } := by
    rw [← hs1]; simp
  have w : s1.writable? = s.writable? := by rw [← hs1]; rfl
  have vs : s1.visit? = s.visit? := by rw [← hs1]; rfl
  -- no raise is ordered again
  have so : (s1.lane l).sendOff = (s.lane l).sendOff := by rw [e1]
  have ob : ∀ o, (s.lane l).sendOff = some o → (decide (r.state = .directed) && o.raiseOrdered) = false := by
    intro o ho
    by_contra c
    simp only [Bool.not_eq_false, Bool.and_eq_true, decide_eq_true_eq] at c
    simp [State.resumesQuietly, c.1, ho, c.2] at q
  have o1 : ∀ b, (∀ o, (s.lane l).sendOff = some o → b = o.raiseOrdered) → ((s.lane l).sendOff = none → b = false) →
      (if (decide (r.state = .directed) && b) = true then s1.orderRaise l else s1) = s1 := by
    intro b hs hn
    rw [if_neg]
    cases ho : (s.lane l).sendOff with
    | none => simp [hn ho]
    | some o => rw [hs o ho, ob o ho]; simp
  rw [so, o1 _ (by intro o ho; simp [ho]) (by intro ho; simp [ho])]
  rw [State.resumeInputs_same (by rw [e1]; exact lv)]
  have t1 : ¬ (r.state = .releasing ∧ (s1.lane l).state = .releasing ∧ (s1.lane l).boomCount > r.boomCount
      ∧ (s1.lane l).boomCount ≥ 2) := by
    intro c
    rw [e1] at c
    simp only [State.resumesQuietly, c.1, decide_eq_true_eq] at q
    have := c.2.2.1
    dsimp only at this
    omega
  rw [if_neg t1]
  have k1 : (s1.lane l).keptAnswers = [] := by rw [e1]; exact ka
  rw [k1, List.foldl_nil]
  have c1 : (s1.modLane l fun x => { x with keptAnswers := [] }) = s1 :=
    State.modLane_same (by conv_rhs => rw [show s1.lane l = { s1.lane l with keptAnswers := [] } by rw [← k1]])
  have x1 : (s1.lane l).link.rxBuf = none := by rw [e1]; exact rx
  have x1 : (s1.lane l).link.rxBuf = none := by rw [e1]; exact rx
  have d1 : s1.dropHeldMessage l = s1 := State.modLane_same (f := fun x => { x with link := { x.link with rxBuf := none } }) (by
    conv_rhs => rw [show s1.lane l = { s1.lane l with link := { (s1.lane l).link with rxBuf := none } } by rw [← x1]])
  rw [c1, x1]
  dsimp only
  rw [d1]
  have vv : (s1.lane l).visit = (s.lane l).visit := by rw [e1]
  have rr : (s1.lane l).request = (s.lane l).request := by rw [e1]
  have st : (s1.lane l).state = r.state := by rw [e1]
  rw [State.lookAtHolds_quiet, State.searchPlate_quiet, vv, w, st]
  · obtain ⟨k, hk⟩ := State.present_link (s1.modLane l fun x => { x with
        request := if r.state = .held ∧ ((s.lane l).visit.bind s.writable?).any (·.holds.isEmpty) = true then .direction
          else x.request }) l
    refine ⟨k, hk.trans ?_⟩
    rw [← hs1, State.modLane_modLane, State.modLane_modLane]
    exact State.modLane_congr rfl
  · intro c
    simp only [State.lane_modLane_self, st] at c
    simp only [State.resumesQuietly, c, Option.isNone_iff_eq_none] at q
    simp only [State.lane_modLane_self, vv]
    rw [State.modLane_visit?, vs]
    exact q
  · intro c
    rw [st] at c
    rw [rr, vv, w]
    simp only [State.resumesQuietly, c, Bool.or_eq_true, decide_eq_true_eq] at q
    refine q.imp id fun a v hv => ?_
    rw [hv] at a
    simpa using a
  · intro c o ho v hv
    rw [st] at c
    rw [so] at ho
    rw [vv, w] at hv
    simp only [State.resumesQuietly, c, ho, hv] at q
    cases hvi : v.holds.isEmpty <;> simp_all

/-! ### A BACK send-off begun anew -/

/-- A BACK send-off jammed by the barrier begins anew with the arm not up: the raise is ordered at once, and only the lane is
touched (R144, R153). -/
theorem State.recoverJam_back {o : SendOff} (n : Nat) (h : (s.lane l).sendOff = some o) (d : o.dest = .back)
    (a : (s.lane l).armUp = false) :
    ∃ k, s.recoverJam l n = s.modLane l fun x =>
      { x with
        state := .directed, output := .asserted, boomCount := 0
        sendOff := some { dest := .back, ticket := .none, raiseOrdered := true, minute := o.minute, ticketId := 0 }
        timers := x.timers.set 0 (.running x.cfg.raiseLimit), link := k } := by
  have a' : ∀ x : Lane, x.cfg = (s.lane l).cfg → x.filters = (s.lane l).filters → x.armUp = false := by
    intro x e f
    rw [← a]
    simp only [Lane.armUp, e, f]
  refine ⟨?_, ?_⟩
  rotate_left
  · simp only [State.recoverJam, h, d, State.beginSendOff, State.startSendOff, State.orderRaise, State.startRaise,
      State.queueMsg, State.modLink, State.lane_modLane_self, ne_eq, reduceCtorEq, not_false_eq_true, if_true]
    rw [a']
    · simp only [State.startTimer, State.modLane_modLane, Function.comp_def, Lane.setTimer]
      rfl
    · rfl
    · rfl

/-- A BACK send-off jammed by the barrier whose arm reads up at its recovery is complete at once. -/
theorem State.recoverJam_back_up {o : SendOff} (n : Nat) (h : (s.lane l).sendOff = some o) (d : o.dest = .back)
    (a : (s.lane l).armUp = true) :
    Passing l (((s.lane l).visit.bind s.writable?).map (·.number)) (s.lane l).visit (s.recoverJam l n) := by
  have a' : ∀ x : Lane, x.cfg = (s.lane l).cfg → x.filters = (s.lane l).filters → x.armUp = true := by
    intro x e f
    rw [← a]
    simp only [Lane.armUp, e, f]
  simp only [State.recoverJam, h, d, State.beginSendOff, State.startSendOff, State.orderRaise, State.startRaise,
    State.queueMsg, State.modLink, State.lane_modLane_self, ne_eq, reduceCtorEq, not_false_eq_true, if_true]
  rw [a' _ (by rfl) (by rfl)]
  simp only [if_true, State.stopTimer, State.modLane_modLane]
  generalize hf : (_ ∘ _ : Lane → Lane) = f
  have hv : (f (s.lane l)).visit = (s.lane l).visit := by rw [← hf]; rfl
  have ho : ∃ o', (f (s.lane l)).sendOff = some o' ∧ o'.dest = .back := by rw [← hf]; exact ⟨_, rfl, rfl⟩
  obtain ⟨o', so, dd⟩ := ho
  unfold State.completeRaise
  simp only [State.lane_modLane_self, so, dd, hv, State.modLane_writable?]
  have g := Passing.of_enterReleasing (s.modLane l f) l
  rw [State.lane_modLane_self, hv] at g
  cases e : (s.lane l).visit.bind s.writable? with
  | none => exact g
  | some v => exact g.turnBack v.number

end Sys2Proof.Machine
end

