-- ==== Sys2Proof/Tests/Slice0.lean ====
section
/-! SUPPORT. Tests: small states, a refused ill-formed term for each check of WellFormed, a witness for the hypotheses
of each statement, and single steps held against the spec's own words. -/

-- Every theorem below waits for the kernel, so elaborating them side by side only holds threads.
set_option Elab.async false

open Sys2Proof Sys2Proof.Machine

namespace Sys2Proof.Tests

/-! ### Small states -/

/-- REF000000 and one digit. -/
def refNo (i : Nat) : Text := [82, 69, 70, 48, 48, 48, 48, 48, 48, BitVec.ofNat 8 (48 + i)]

/-- PL and one digit. -/
def plateNo (i : Nat) : Text := [80, 76, BitVec.ofNat 8 (48 + i)]

/-- SL and one digit. -/
def sealNo (i : Nat) : Text := [83, 76, BitVec.ofNat 8 (48 + i)]

/-- CSQU3054383, the identifier of ISO 6346's own example. -/
def box : Text := [67, 83, 81, 85, 51, 48, 53, 52, 51, 56, 51]

/-- AAAA. -/
def carrierA : Text := [65, 65, 65, 65]

/-- BBBB. -/
def carrierB : Text := [66, 66, 66, 66]

def noFlags : BookingFlags := { absorbed := false, pulled := false, withdrawn := false, incomplete := false }

/-- An export drop of the box, sealed. -/
def dropMove : BookMove :=
  { kind := .exportDrop, container := some box, release := none, size := none, seals := [sealNo 1] }

def booking (i : Nat) (state : BookingState) (claimant : Option Nat) (tag : Nat) : Booking :=
  { ref := refNo i, carrier := carrierA, plate := some (plateNo i), card := none, tag, pool := .general, recL := 30
    special := .plain, moves := [dropMove], preferred := none, state, flags := noFlags, claimant }

def window (start cg cr bookedG bookedR : Nat) : Window :=
  { start, length := 30, cg, cr, bookedG, bookedR, arrived := 0, late := 0, absorbed := 0, pulledIn := 0 }

def noDamage : DamageRecord := { severity := Vector.replicate 7 0, count := 0, index := 0, after := 0 }

/-- The move entry of a booking's export drop. -/
def dropEntry (i : Nat) (state : MoveState) (block : Option BlockId) (w : WindowState) : MoveEntry :=
  { kind := .exportDrop, container := some box, owner := refNo i, state, block
    sealRec := some { declared := [sealNo 1], reads := [], window := w, verdict := none }, damage := some noDamage }

def hold (reason : HoldReason) : Hold := { reason, source := .host, placed := 1000 }

def visit (n : Nat) (stage : Stage) (i : Nat) : Visit :=
  { number := n, stage, lane := none, desk := none, plate := none, card := none, axle := 0
    claimed := [{ ref := refNo i, standing := .onTime, holdover := false }], moves := [], holds := [], stray := []
    direction := none, staging := none, arrival := 990, arrivalSec := 0, release := none, causes := [], ending := none }

/-- Six holds, none of them CLERK, WITHDRAWN, SEAL, DAMAGE, NO_YARD or NO_SLOT. -/
def sixHolds : List Hold :=
  [hold .noBooking, hold .carrier, hold .driver, hold .axleCheck, hold .linkDown, hold .timeout]

/-- An open export block with credit and a move on its way. -/
def block0 : Block :=
  { kind := .stackExport, opened := true, credit := 5, inTransit := 1, route := 7, label := [65] }

/-- Minute 1000, LOCKED; two windows, the first running; a booking in each state; two carriers; a visit at lane 1 in
CHECKING, one at desk 1, one queued, one released with a move on its way to block 0, one closed awaiting its report. -/
def gate : State := { State.reset with
  tb := { TimeBase.reset with minute := some 1000, clock := .locked }
  be := { BookEngine.reset with
    book := [booking 1 .opened none 990, booking 2 .lapsed none 900, booking 3 .arrived (some 1) 990
      , booking 4 .cancelled none 990, booking 5 .consumed none 990, booking 6 .arrived (some 2) 990
      , booking 7 .admitted (some 4) 990]
    carriers := [{ code := carrierA, state := .active }, { code := carrierB, state := .suspended }]
    ring := [window 990 8 1 5 0, window 1020 1 1 0 0] }
  vt := { VisitTable.reset with
    visits := [
      { visit 1 .atLane 3 with lane := some 0, moves := [dropEntry 3 .pending none .opened] }
      , { visit 2 .atDesk 6 with desk := some 0, moves := [dropEntry 6 .pending none .closed], holds := [hold .clerk] }
      , { visit 3 .queued 8 with claimed := [], holds := [hold .clerk] }
      , { visit 4 .released 7 with moves := [dropEntry 7 .directed (some 0) .closed] }
      , closedVisit 5 [.closed]]
    next := 6, changed := [1, 5] }
  lanes := State.reset.lanes.set 0 { Lane.reset false with
    state := .checking, visit := some 1, identTold := true, link := { Link.reset false with online := true } }
  yd := { YardDirector.reset with blocks := YardDirector.reset.blocks.set 0 block0 }
  td := { TroubleDesk.reset with queue := [3], desks := TroubleDesk.reset.desks.set 0 (.serving 2 995 false) } }

/-- The state a command leads to. -/
def after (c : Instr) (s : State) : State :=
  match exec c s with
  | .next t => t
  | .fault _ => s
  | .refused _ => s

/-- The status and payload of the response a command has just put in the queue. -/
def reply (c : Instr) (s : State) : Option (Status × List Field) :=
  if (after c s).cp.responses.length = s.cp.responses.length then none
  else (after c s).cp.responses.getLast?.map fun r => (r.status, r.payload)

/-- SETTINGS_WRITE that gives nothing. -/
def noSettings : SettingsOp :=
  { p := none, hx := none, e := none, g := none, stopMode := none, restart := none, stopPolarity := none, stopInput := none
    sealWindow := none, damageWindow := none, weights := Vector.replicate 7 none, tInspect := none, tHold := none }

/-- A state with the record of lane 1 changed. -/
def lane1 (f : Lane → Lane) (s : State) : State := s.modLane 0 f

theorem ready_of {s : State} (h : s.cp = ControlPort.reset) : s.portReady := by
  simp [State.portReady, State.portIdle, h, ControlPort.reset, noGateFlags, Config.responsePlaces]

theorem gate_turn : gate.portTurn := by unfold State.portTurn; decide +kernel

theorem gate_book : gate.bookOk := by unfold State.bookOk; decide +kernel

theorem gate_visits : gate.visitsOk := by unfold State.visitsOk holdsOk; decide +kernel

theorem gate_ring : gate.ringOk := by unfold State.ringOk Window.sound; decide +kernel

theorem book_of {s : State} (h : s.be = gate.be) : s.bookOk := by
  have g := gate_book
  unfold State.bookOk at g ⊢
  rw [h]
  exact g

theorem visits_of {s : State} (h : s.vt = gate.vt) : s.visitsOk := by
  have g := gate_visits
  unfold State.visitsOk at g ⊢
  rw [h]
  exact g

/-- The clock of a state at a minute below the top, LOCKED, with no catch-up and no command in progress. -/
theorem clock_of {s : State} (h : s.tb.clock = .locked ∧ s.tb.target = none ∧ s.cp.inProgress = none
    ∧ s.tb.minute.any (fun n => decide (n < Config.maxMinute)) = true) : s.clockOk := by
  obtain ⟨c, g, p, m⟩ := h
  unfold State.clockOk
  cases e : s.tb.minute with
  | none => simp [e] at m
  | some n =>
    rw [e, Option.any_some, decide_eq_true_eq] at m
    simp [c, g, p]
    omega

theorem turn_of {s : State} (h : decide (s.retirementHeld = false ∧ s.nextLane = none) = true) : s.portTurn :=
  ⟨(of_decide_eq_true h).1, .inl (of_decide_eq_true h).2⟩

/-! ### Witnesses: the step, the invariants, the port -/

/-- A state with a command waiting. -/
def waiting : State := { gate with pending := [.timeSync 7 1003] }

theorem witness_StepRunsFrontCommand : gate.pending = [] ∧ step gate = .next gate := ⟨rfl, rfl⟩

theorem witness_StepKeepsClock : waiting.clockOk ∧ ∃ t, step waiting = .next t :=
  ⟨clock_of (by decide +kernel), _, rfl⟩

theorem witness_StepKeepsBook : waiting.bookOk ∧ ∃ t, step waiting = .next t := ⟨book_of rfl, _, rfl⟩

theorem witness_StepKeepsRing : waiting.ringOk ∧ ∃ t, step waiting = .next t :=
  ⟨by unfold State.ringOk Window.sound; decide +kernel, _, rfl⟩

theorem witness_StepKeepsVisits : waiting.visitsOk ∧ ∃ t, step waiting = .next t := ⟨visits_of rfl, _, rfl⟩

theorem waiting_trouble : waiting.troubleOk := by unfold State.troubleOk; decide +kernel

theorem waiting_queues : waiting.waitOk ∧ waiting.placesOk :=
  ⟨by unfold State.waitOk; decide +kernel, by unfold State.placesOk; decide +kernel⟩

theorem waiting_lanes : waiting.lanesOk := by unfold State.lanesOk; decide +kernel

theorem waiting_endings : waiting.endingsOk := by unfold State.endingsOk State.standsAs; decide +kernel

/-- The standings of a state whose desks serve no visit that is ending. -/
theorem standings_of {s : State}
    (lanes : ∀ l, (s.lane l).visit.all (fun n =>
      (s.visit? n).any fun v => decide (v.stage = .atLane ∧ v.lane = some l)) = true)
    (desks : ∀ d : DeskId, (match s.td.desks[d] with
      | .serving n _ _ => (s.visit? n).any fun v => decide (v.stage = .atDesk ∧ v.desk = some d ∧ v.ending = none)
      | .free => true) = true)
    (queue : s.td.queue.Nodup ∧ ∀ n ∈ s.td.queue,
      (s.visit? n).any (fun v => decide (v.stage = .queued ∧ v.ending = none)) = true)
    (staged : s.vt.stagedIn.Nodup ∧ ∀ n ∈ s.vt.stagedIn, (s.visit? n).any (fun v => decide (v.stage = .staged)) = true)
    (rest : ∀ v ∈ s.vt.visits, (v.lane.isSome ↔ v.stage = .atLane) ∧ (v.desk.isSome ↔ v.stage = .atDesk)) :
    s.standingsOk := by
  refine ⟨fun l n h => by simpa [h, State.standsAs] using lanes l, queue, fun d n t r h => ?_, staged, rest⟩
  have := desks d
  rw [h] at this
  simp only [Option.any_eq_true, decide_eq_true_eq, State.standsAs] at this ⊢
  obtain ⟨v, e, st, dk, en⟩ := this
  exact ⟨⟨v, e, st, dk⟩, fun _ => ⟨v, e, by rw [en]; rfl⟩⟩

theorem waiting_standings : waiting.standingsOk :=
  standings_of (by decide +kernel) (by decide +kernel) (by decide +kernel) (by decide +kernel) (by decide +kernel)

theorem waiting_transit : waiting.transitOk := by unfold State.transitOk State.onTheWay; decide +kernel

/-- The claims of a state in which no lane claims and no answer is kept agree. -/
theorem claims_of {s : State} (quiet : ∀ l, (s.lane l).request = .none ∧ (s.lane l).keptAnswers = [])
    (named : s.be.book.all (fun b => b.claimant.all fun n =>
      (s.live? n).any fun v => decide (b.ref ∈ v.claimed.map (·.ref))) = true)
    (states : ∀ b ∈ s.be.book, b.claimant.isSome ↔ (b.state = .arrived ∨ b.state = .admitted))
    (claims : ∀ v ∈ s.vt.visits, ∀ c ∈ v.claimed,
      (s.booking? c.ref).any (fun b => decide (b.claimant = some v.number)) = true) : s.claimsOk :=
  ⟨claims, fun b hb _ h => by simpa [h] using List.all_eq_true.mp named b hb, states
    , fun l refs h => by simp [(quiet l).1] at h, fun l a b h => by simp [(quiet l).2] at h⟩

theorem waiting_claims : waiting.claimsOk :=
  claims_of (by decide +kernel) (by decide +kernel) (by decide +kernel) (by decide +kernel)

theorem waiting_charges : waiting.chargesOk := by
  refine ⟨fun w hw p => ?_, by decide +kernel⟩
  revert w
  cases p <;> decide +kernel

theorem waiting_sound : waiting.sound :=
  ⟨witness_StepKeepsClock.1, book_of rfl, witness_StepKeepsRing.1, visits_of rfl, waiting_queues.1, waiting_queues.2⟩

theorem waiting_linked : waiting.linked :=
  ⟨waiting_lanes, waiting_endings, waiting_standings, waiting_transit, waiting_claims, waiting_charges⟩

theorem witness_StepKeepsCharges : waiting.sound ∧ waiting.linked ∧ ∃ t, step waiting = .next t :=
  ⟨waiting_sound, waiting_linked, _, rfl⟩

theorem witness_StepKeepsPlaces : waiting.sound ∧ waiting.linked ∧ ∃ t, step waiting = .next t :=
  witness_StepKeepsCharges

theorem witness_StepKeepsQueues :
    waiting.waitOk ∧ waiting.placesOk ∧ waiting.sound ∧ waiting.linked ∧ waiting.troubleOk ∧ ∃ t, step waiting = .next t :=
  ⟨waiting_queues.1, waiting_queues.2, waiting_sound, waiting_linked, waiting_trouble, _, rfl⟩

/-- A booking in form. -/
def newBooking : NewBooking :=
  { ref := refNo 9, carrier := carrierA, plate := some (plateNo 9), card := none, tag := 990, pool := .general
    special := .plain, moves := [dropMove], preferred := none }

theorem witness_CommandFrameCarriesCommand :
    (codeOf (.bookAdd 7 newBooking)).isSome = true ∧ wellFormed (.bookAdd 7 newBooking) = true
      ∧ gate.awaits (.bookAdd 7 newBooking) = false ∧ (encode (.bookAdd 7 newBooking)).length = 55 := by
  decide +kernel

/-- Four responses wait. -/
def fullPort : State := ((((gate.respond 1 .ok []).respond 2 .ok []).respond 3 .ok []).respond 4 .ok [])

/-- A catch-up is in progress. -/
def busyPort : State := { gate with
  tb := { gate.tb with target := some 1003 }
  cp := { gate.cp with inProgress := some { tag := 9, cmd := .timeSync 9 1003, phase := .catchUp } } }

/-- PORT_FAULT is set. -/
def faultPort : State := gate.flagPortFault .badFrame

theorem witness_PortAnswersAndFetches :
    (fullPort.awaits (.deskTake 7 2) = false ∧ fullPort.placesTaken = 4)
      ∧ (busyPort.awaits (.deskTake 7 2) = false ∧ busyPort.placesTaken < 4 ∧ busyPort.cp.inProgress.isSome = true)
      ∧ (faultPort.cp.flags.portFault = true ∧ readingRow (.deskTake 7 2) = false
        ∧ faultPort.awaits (.deskTake 7 2) = false ∧ reply (.deskTake 7 2) faultPort = some (.portFault, []))
      ∧ reply (.commandFrame 0 [1, 2]) gate = some (.badFrame, [])
      ∧ (malformed [1, 7, 0, 0] = true ∧ reply (.commandFrame 1 [1, 7, 0, 0]) gate = some (.badFrame, []))
      ∧ (malformed (frameOf 44 7 []) = false ∧ reply (.commandFrame 1 (frameOf 44 7 [])) gate = some (.unknownCommand, []))
      ∧ (malformed (frameOf 1 7 []) = false ∧ (readCommand 1 7 []).isNone = true
        ∧ reply (.commandFrame 1 (frameOf 1 7 [])) gate = some (.badValue, [])) := by
  decide +kernel

theorem witness_portFaultIdle : faultPort.portIdle := by unfold State.portIdle; decide +kernel

theorem witness_fetchOldest :
    gate.cp.responses = []
      ∧ fullPort.cp.responses.map (·.tag) = [1, 2, 3, 4]
      ∧ (after (.fetch 6) fullPort).cp.responses.map (·.tag) = [2, 3, 4]
      ∧ (after (.fetch 5) fullPort).cp.responses.map (·.tag) = [1, 2, 3, 4]
      ∧ (after (.fetch 6) fullPort).cp.fetchOut = [4, 1, 0, 0, 0, 255] := by
  decide +kernel

theorem witness_ResetsLeavePart :
    gate.portReady ∧ gate.retirementHeld = false ∧ gate.bookOk
      ∧ [1, 3, 7, 9].map (fun i => (gate.booking? (refNo i)).map (·.state))
        = [some .opened, some .arrived, some .admitted, none]
      ∧ gate.strapped 0 = true ∧ (State.powerOn true false fun _ => false).strapped 4 = false :=
  ⟨ready_of rfl, by decide +kernel, gate_book, by decide +kernel, by decide +kernel, by decide +kernel⟩

/-- The clock set to a minute in a state. -/
def atMinute (n : Nat) (clock : ClockState) (s : State) : State := { s with tb := { s.tb with minute := some n, clock } }

/-- The first window of `gate` falls due. -/
def dueGate : State := atMinute 1040 .locked gate

theorem witness_gateResetWaits :
    dueGate.portReady ∧ dueGate.retirementHeld = true ∧ reply (.gateReset 7) dueGate = none
      ∧ (after (.gateReset 7) dueGate).cp.inProgress.map (·.phase) = some .waiting
      ∧ reply (.gateReset 7) (after .retirement (after (.gateReset 7) dueGate)) = some (.ok, []) :=
  ⟨ready_of rfl, by and_intros <;> decide +kernel⟩

theorem witness_ReadingsAnswer :
    gate.portIdle ∧ gate.portTurn
      ∧ blockOf 31 = some 31 ∧ (reply (.blockRead 7 (.block 31)) gate).map (·.1) = some .ok
      ∧ reply (.blockRead 7 (.block 32)) gate = some (.badValue, [])
      ∧ (reply (.visitRead 7 (.number 1)) gate).map (·.1) = some .ok
      ∧ ((gate.visit? 5).map (·.stage) = some .closed ∧ (reply (.visitRead 7 (.number 5)) gate).map (·.1) = some .ok)
      ∧ (reply (.visitRead 7 (.number 6)) gate).map (·.1) = some .notFound
      ∧ reply (.visitRead 7 (.staging 24)) gate = some (.badValue, [])
      ∧ (reply (.windowRead 7 .running) gate).map (·.1) = some .ok
      ∧ (reply (.windowRead 7 .lastRetired) gate).map (·.1) = some .notFound
      ∧ (reply (.bookFind 7 (.ref (refNo 3))) gate).map (·.1) = some .ok
      ∧ (gate.be.book.filter (fun b => decide (b.plate = some (plateNo 3)))).length = 1
      ∧ gate.be.book.filter (fun b => decide (b.card = some [49])) = [] :=
  ⟨(ready_of rfl).1, gate_turn, by decide +kernel⟩

theorem witness_StatusReadsClearFlags :
    gate.portIdle ∧ gate.cp.flags.portFault = false
      ∧ reply (.laneStatus 7 0 noLinkFlags) gate = some (.badValue, [])
      ∧ reply (.laneStatus 7 13 noLinkFlags) gate = some (.badValue, [])
      ∧ ((11 : LaneId).val + 1 = 12 ∧ (reply (.laneStatus 7 12 { noLinkFlags with brk := true }) gate).map (·.1) = some .ok)
      ∧ (after (.gateStatus 7 { noGateFlags with portFault := true }) faultPort).cp.flags.portFault = false :=
  ⟨(ready_of rfl).1, by decide +kernel⟩

/-! ### Witnesses: the time base and retirement -/

/-- No lane open and no visit, in UNSET, with the windows of `gate`. -/
def closedGate : State := { State.reset with be := gate.be }

theorem witness_TimeSetStartsClock :
    closedGate.portReady ∧ gate.portReady
      ∧ reply (.timeSet 7 1048576) closedGate = some (.badValue, [])
      ∧ (gate.liveCount ≠ 0 ∧ (gate.lane 0).state ≠ .closed ∧ reply (.timeSet 7 1000) gate = some (.wrongState, []))
      ∧ (closedGate.liveCount = 0 ∧ (∀ l, (closedGate.lane l).state = .closed)
        ∧ (after (.timeSet 7 1048575) closedGate).tb.clock = .lost
        ∧ reply (.timeSet 7 1048575) closedGate = some (.ok, []))
      ∧ ((after (.timeSet 7 1039) closedGate).retirementHeld = false ∧ reply (.timeSet 7 1039) closedGate = some (.ok, []))
      ∧ ((after (.timeSet 7 1040) closedGate).retirementHeld = true ∧ reply (.timeSet 7 1040) closedGate = none) :=
  ⟨ready_of rfl, ready_of rfl, by decide +kernel⟩

/-- The clock lost at the minute the first window falls due for retirement. -/
def lostGate : State := atMinute 1040 .lost gate

theorem witness_TimeSyncFollowsHost :
    closedGate.portReady ∧ gate.portReady ∧ lostGate.portReady
      ∧ (closedGate.tb.minute = none ∧ reply (.timeSync 7 1000) closedGate = some (.clockUnset, []))
      ∧ reply (.timeSync 7 1048576) gate = some (.badValue, [])
      ∧ reply (.timeSync 7 989) gate = some (.outOfRange, [])
      ∧ (reply (.timeSync 7 990) gate = some (.ok, []) ∧ (after (.timeSync 7 990) gate).tb.lead = 10)
      ∧ reply (.timeSync 7 1000) gate = some (.ok, [])
      ∧ (reply (.timeSync 7 1001) gate = none ∧ (after (.timeSync 7 1001) gate).tb.target = some 1001)
      ∧ (lostGate.tb.clock = .lost ∧ (after (.timeSync 7 1040) lostGate).retirementHeld = true
        ∧ (after (.timeSync 7 1040) lostGate).cp.inProgress.map (·.phase) = some (.recoverForward 1040 (some 990))
        ∧ (after (.timeSync 7 1039) lostGate).cp.inProgress.map (·.phase) = some (.recoverBackward 1 (some 990))) :=
  ⟨ready_of rfl, ready_of rfl, ready_of rfl, by decide +kernel⟩

theorem witness_CatchUpStepWalks :
    (gate.tb.target = none)
      ∧ ((atMinute 1040 .locked busyPort).retirementHeld = true)
      ∧ (busyPort.tb.target = some 1003 ∧ busyPort.tb.minute = some 1000 ∧ busyPort.retirementHeld = false
        ∧ (busyPort.cp.inProgress.map (·.phase)) = some .catchUp
        ∧ reply .catchUpStep busyPort = some (.ok, []) ∧ (after .catchUpStep busyPort).tb.minute = some 1003)
      ∧ ((atMinute 1003 .locked busyPort).retirementHeld = false
        ∧ reply .catchUpStep (atMinute 1003 .locked busyPort) = some (.ok, []))
      ∧ (let s : State := atMinute 1039 .locked { busyPort with tb := { busyPort.tb with target := some 1050 } }
        s.retirementHeld = false ∧ (after .catchUpStep s).tb.minute = some 1040
          ∧ (after .catchUpStep s).tb.target = some 1050) := by
  decide +kernel

/-- An internal minute tick is called for. -/
def tickDue (s : State) : State := { s with tb := { s.tb with ticksDue := 1 } }

theorem witness_SecondsAndMinutesCount :
    gate.tb.ticksDue = 0 ∧ (tickDue closedGate).tb.clock = .unset
      ∧ ((tickDue gate).tb.ticksDue ≠ 0 ∧ (tickDue gate).tb.clock ≠ .unset ∧ (tickDue gate).tb.lead = 0
        ∧ (tickDue gate).tb.target = none ∧ (after .internalMinuteTick (tickDue gate)).tb.minute = some 1001)
      ∧ (let s := tickDue { gate with tb := { gate.tb with lead := 1 } }
        0 < s.tb.lead ∧ (after .internalMinuteTick s).tb.minute = some 1000 ∧ (after .internalMinuteTick s).tb.lead = 0)
      ∧ (let s := tickDue busyPort
        s.tb.target = some 1003 ∧ (after .internalMinuteTick s).tb.target = some 1004)
      ∧ (after .internalMinuteTick (tickDue { gate with tb := { gate.tb with sinceSync := 4 } })).tb.clock = .holdover
      ∧ (after .internalMinuteTick (tickDue { gate with tb := { gate.tb with sinceSync := 24 } })).tb.clock = .lost := by
  decide +kernel

theorem witness_tickSteady : (tickDue gate).portSteady ∧ (tickDue busyPort).portSteady := by
  constructor
  · intro p h
    exact absurd h (by simp [tickDue, gate, State.reset, State.powerOn, ControlPort.reset])
  · intro p h
    simp only [tickDue, busyPort, Option.some.injEq] at h
    subst h
    rfl

theorem witness_RetirementServesHead :
    gate.retirementHeld = false
      ∧ (dueGate.be.ring = [window 990 8 1 5 0, window 1020 1 1 0 0] ∧ dueGate.retirementHeld = true
        ∧ dueGate.cp.inProgress.isNone = true ∧ dueGate.bookOk)
      ∧ (after .retirement dueGate).be.ring.map (·.start) = [1020]
      ∧ (let s : State := { dueGate with be := { dueGate.be with book := [booking 1 .opened none 990] } }
        s.retirementHeld = true ∧ (∀ b ∈ s.be.book, b.tag = 990 → b.state = .arrived → b.claimant = none)
          ∧ (after .retirement s).be.book.map (·.state) = [.lapsed]) :=
  ⟨by decide +kernel, ⟨rfl, by decide +kernel, by decide +kernel, book_of rfl⟩, by decide +kernel⟩

theorem witness_retirementSteady : dueGate.portSteady := by
  intro p h
  exact absurd h (by simp [dueGate, atMinute, gate, State.reset, State.powerOn, ControlPort.reset])

/-! ### Witnesses: windows, book and carriers -/

theorem witness_WindowCommandsShapeRing :
    gate.portReady ∧ gate.portTurn
      ∧ reply (.windowAppend 7 1050 14 1 1) gate = some (.badValue, [])
      ∧ reply (.windowAppend 7 1048546 30 1 1) gate = some (.badValue, [])
      ∧ reply (.windowAppend 7 1049 15 1 1) gate = some (.outOfRange, [])
      ∧ reply (.windowAppend 7 1050 15 255 63) gate = some (.ok, [])
      ∧ reply (.windowAppend 7 1050 240 256 63) gate = some (.okClamped, [])
      ∧ reply (.windowResize 7 1000 none none) gate = some (.notFound, [])
      ∧ (gate.be.ring.find? (fun w => decide (w.start = 990)) = some (window 990 8 1 5 0)
        ∧ reply (.windowResize 7 990 (some 4) (some 63)) gate = some (.okClamped, [.byte 5, .byte 63])
        ∧ reply (.windowResize 7 990 (some 5) none) gate = some (.ok, [.byte 5, .byte 1])) :=
  ⟨ready_of rfl, gate_turn, by decide +kernel⟩

/-- The book filled to its last place. -/
def fullBook : State := { gate with be := { gate.be with book := List.replicate 4096 (booking 1 .cancelled none 990) } }

theorem witness_BookAddRecordsBooking :
    gate.portReady ∧ gate.portTurn
      ∧ (refForm [49] = false ∧ reply (.bookAdd 7 { newBooking with ref := [49] }) gate = some (.badValue, []))
      ∧ (refForm (refNo 9) = true
        ∧ bookingForm (some (plateNo 9)) none .general .plain [] none = some .badValue
        ∧ reply (.bookAdd 7 { newBooking with moves := [] }) gate = some (.badValue, []))
      ∧ bookingForm (some (plateNo 9)) none .general .plain [dropMove] none = none
      ∧ reply (.bookAdd 7 { newBooking with ref := refNo 1 }) gate = some (.duplicate, [])
      ∧ (gate.carrier? [67, 67, 67, 67] = none
        ∧ reply (.bookAdd 7 { newBooking with carrier := [67, 67, 67, 67] }) gate = some (.notFound, []))
      ∧ (gate.carrier? carrierB = some .suspended
        ∧ reply (.bookAdd 7 { newBooking with carrier := carrierB }) gate = some (.wrongState, []))
      ∧ gate.carrier? carrierA = some .active
      ∧ ((gate.windowOf 1000).isNone = true ∧ reply (.bookAdd 7 { newBooking with tag := 1000 }) gate = some (.notFound, []))
      ∧ (gate.windowOf 990 = some (window 990 8 1 5 0) ∧ gate.due (window 990 8 1 5 0) = false
        ∧ reply (.bookAdd 7 newBooking) gate = some (.ok, []))
      ∧ ((atMinute 1040 .lost gate).due (window 990 8 1 5 0) = true
        ∧ reply (.bookAdd 7 newBooking) (atMinute 1040 .lost gate) = some (.wrongState, []))
      ∧ (let s : State := { gate with be := { gate.be with ring := [window 990 5 1 5 0] } }
        s.windowOf 990 = some (window 990 5 1 5 0) ∧ reply (.bookAdd 7 newBooking) s = some (.noRoom, [])) :=
  ⟨ready_of rfl, gate_turn, by decide +kernel⟩

theorem witness_bookFull :
    fullBook.be.book.length = 4096 ∧ (fullBook.windowOf 990).any (fun w => decide (w.bookedG < w.cg)) = true
      ∧ fullBook.retirementHeld = false ∧ fullBook.nextLane = none := by
  decide +kernel

/-- An amendment that leaves every field. -/
def noChange : Amendment :=
  { plate := .keep, card := .keep, tag := none, pool := none, special := none, moves := none, preferred := .keep }

theorem witness_BookAmendRewrites :
    gate.portReady ∧ gate.portTurn
      ∧ (gate.booking? (refNo 9) = none ∧ reply (.bookAmend 7 (refNo 9) noChange) gate = some (.notFound, []))
      ∧ ((gate.booking? (refNo 2)).map (·.state) = some .lapsed
        ∧ reply (.bookAmend 7 (refNo 2) noChange) gate = some (.wrongState, []))
      ∧ gate.booking? (refNo 1) = some (booking 1 .opened none 990)
      ∧ reply (.bookAmend 7 (refNo 1) { noChange with preferred := .put 32 }) gate = some (.badValue, [])
      ∧ reply (.bookAmend 7 (refNo 1) { noChange with preferred := .put 31 }) gate = some (.ok, [])
      ∧ reply (.bookAmend 7 (refNo 1) { noChange with tag := some 1000 }) gate = some (.notFound, [])
      ∧ (gate.windowOf 1020 = some (window 1020 1 1 0 0) ∧ gate.due (window 1020 1 1 0 0) = false
        ∧ reply (.bookAmend 7 (refNo 1) { noChange with tag := some 1020 }) gate = some (.ok, [])
        ∧ (after (.bookAmend 7 (refNo 1) { noChange with tag := some 1020 }) gate).be.ring.map (·.bookedG) = [4, 1])
      ∧ (let s := atMinute 1070 .lost gate
        s.due (window 1020 1 1 0 0) = true
          ∧ reply (.bookAmend 7 (refNo 1) { noChange with tag := some 1020 }) s = some (.wrongState, []))
      ∧ (let s : State := { gate with be := { gate.be with ring := [window 990 8 1 5 0, window 1020 1 1 1 0] } }
        s.windowOf 1020 = some (window 1020 1 1 1 0)
          ∧ reply (.bookAmend 7 (refNo 1) { noChange with tag := some 1020 }) s = some (.noRoom, [])) :=
  ⟨ready_of rfl, gate_turn, by decide +kernel⟩

/-- A visit of a state changed. -/
def withVisit (n : Nat) (f : Visit → Visit) (s : State) : State := s.modVisit n f

/-- `gate` with six holds at the visit at lane 1. -/
def sixHeld : State := withVisit 1 (fun v => { v with holds := sixHolds }) gate

/-- `gate` with the booking of visit 2 flagged WITHDRAWN, and its hold. -/
def withdrawn : State :=
  withVisit 2 (fun v => { v with holds := [hold .withdrawn] }) { gate with be := { gate.be with
    book := gate.be.book.map fun b => if b.ref = refNo 6 then { b with flags := { noFlags with withdrawn := true } } else b } }

theorem withdrawn_book : withdrawn.bookOk := by unfold State.bookOk; decide +kernel

theorem withdrawn_visits : withdrawn.visitsOk := by unfold State.visitsOk holdsOk; decide +kernel

theorem sixHeld_visits : sixHeld.visitsOk := by unfold State.visitsOk holdsOk; decide +kernel

theorem witness_BookCancelSettles :
    gate.portReady ∧ gate.portTurn ∧ gate.visitsOk
      ∧ gate.booking? (refNo 9) = none
      ∧ (gate.booking? (refNo 1) = some (booking 1 .opened none 990) ∧ reply (.bookCancel 7 (refNo 1)) gate = some (.ok, []))
      ∧ ((gate.booking? (refNo 2)).map (·.state) = some .lapsed ∧ reply (.bookCancel 7 (refNo 2)) gate = some (.ok, []))
      ∧ ((gate.booking? (refNo 7)).map (·.state) = some .admitted
        ∧ reply (.bookCancel 7 (refNo 7)) gate = some (.wrongState, []))
      ∧ (gate.booking? (refNo 3) = some (booking 3 .arrived (some 1) 990) ∧ (gate.live? 1).map (·.stage) = some .atLane
        ∧ reply (.bookCancel 7 (refNo 3)) gate = some (.ok, []))
      ∧ ((sixHeld.live? 1).map (·.holds.length) = some 6 ∧ reply (.bookCancel 7 (refNo 3)) sixHeld = some (.full, []))
      ∧ ((withdrawn.booking? (refNo 6)).map (·.flags.withdrawn) = some true
        ∧ reply (.bookCancel 7 (refNo 6)) withdrawn = some (.ok, []))
      ∧ (gate.live? 1).map (·.ending) = some none :=
  ⟨ready_of rfl, gate_turn, gate_visits, by decide +kernel⟩

theorem witness_cancelClaimed :
    (let s := withVisit 1 (fun v => { v with stage := .released }) gate;
        (s.live? 1).map (·.stage) = some .released ∧ reply (.bookCancel 7 (refNo 3)) s = some (.wrongState, []))
      ∧ (let s := withVisit 1 (fun v => { v with ending := some .turnBack }) gate;
        (s.live? 1).map (·.ending) = some (some .turnBack) ∧ reply (.bookCancel 7 (refNo 3)) s = some (.wrongState, []))
      ∧ (let s := withVisit 1 (fun v => { v with stage := .closed }) gate;
        s.live? 1 = none ∧ reply (.bookCancel 7 (refNo 3)) s = some (.wrongState, [])) := by
  decide +kernel

theorem witness_BookReinstateAndPurge :
    withdrawn.portReady ∧ withdrawn.portTurn ∧ withdrawn.bookOk ∧ withdrawn.visitsOk
      ∧ withdrawn.booking? (refNo 9) = none
      ∧ ((withdrawn.booking? (refNo 3)).map (·.flags.withdrawn) = some false
        ∧ reply (.bookReinstate 7 (refNo 3)) withdrawn = some (.wrongState, []))
      ∧ ((withdrawn.booking? (refNo 6)).map (fun b => (b.state, b.flags.withdrawn, b.claimant)) = some (.arrived, true, some 2)
        ∧ (withdrawn.writable? 2).map (·.number) = some 2 ∧ withdrawn.claimedRefs 2 = [refNo 6]
        ∧ reply (.bookReinstate 7 (refNo 6)) withdrawn = some (.ok, [])
        ∧ ((after (.bookReinstate 7 (refNo 6)) withdrawn).visit? 2).map (·.holds) = some [])
      ∧ (let s := withVisit 2 (fun v => { v with ending := some .turnBack }) withdrawn
        s.writable? 2 = none ∧ reply (.bookReinstate 7 (refNo 6)) s = some (.ok, [])) :=
  ⟨ready_of rfl, turn_of (by decide +kernel), withdrawn_book, withdrawn_visits, by decide +kernel⟩

theorem witness_purgeFrees :
    gate.portReady ∧ gate.portTurn ∧ gate.bookOk
      ∧ (gate.booking? (refNo 9) = none ∧ reply (.bookPurge 7 (.ref (refNo 9))) gate = some (.notFound, []))
      ∧ reply (.bookPurge 7 (.ref (refNo 1))) gate = some (.wrongState, [])
      ∧ ((gate.booking? (refNo 5)).map (·.state) = some .consumed ∧ reply (.bookPurge 7 (.ref (refNo 5))) gate = some (.ok, [])
        ∧ (after (.bookPurge 7 (.ref (refNo 5))) gate).be.ring.map (·.bookedG) = [4, 0])
      ∧ reply (.bookPurge 7 (.minute 990)) gate = some (.ok, [.word 1])
      ∧ reply (.bookPurge 7 (.minute 991)) gate = some (.ok, [.word 3]) :=
  ⟨ready_of rfl, gate_turn, gate_book, by decide +kernel⟩

/-- `gate` with every carrier SUSPENDED and hold CARRIER on the visit at lane 1. -/
def suspended : State :=
  withVisit 1 (fun v => { v with holds := [hold .carrier] }) { gate with be := { gate.be with
    carriers := [{ code := carrierA, state := .suspended }, { code := carrierB, state := .suspended }] } }

theorem suspended_visits : suspended.visitsOk := by unfold State.visitsOk holdsOk; decide +kernel

theorem witness_CarrierSetWrites :
    (gate.portReady ∧ gate.portTurn ∧ gate.visitsOk) ∧ (suspended.portReady ∧ suspended.portTurn ∧ suspended.visitsOk)
      ∧ (carrierForm [65] = false ∧ reply (.carrierSet 7 [65] .active) gate = some (.badValue, []))
      ∧ (carrierForm [67, 67, 67, 67] = true ∧ gate.carrier? [67, 67, 67, 67] = none
        ∧ reply (.carrierSet 7 [67, 67, 67, 67] .active) gate = some (.ok, [])
        ∧ reply (.carrierSet 7 [67, 67, 67, 67] .suspended) gate = some (.ok, [])
        ∧ reply (.carrierSet 7 [67, 67, 67, 67] .remove) gate = some (.notFound, []))
      ∧ (let s : State := { gate with be := { gate.be with
          carriers := List.replicate 128 { code := carrierA, state := .active } } }
        reply (.carrierSet 7 [67, 67, 67, 67] .active) s = some (.full, []))
      ∧ reply (.carrierSet 7 carrierA .active) gate = some (.ok, [])
      ∧ reply (.carrierSet 7 carrierB .suspended) gate = some (.ok, [])
      ∧ reply (.carrierSet 7 carrierA .remove) gate = some (.wrongState, [])
      ∧ reply (.carrierSet 7 carrierB .remove) gate = some (.ok, [])
      ∧ (gate.carrier? carrierA = some .active ∧ (gate.writable? 1).map (·.stage) = some .atLane
        ∧ ((after (.carrierSet 7 carrierA .suspended) gate).visit? 1).map (·.holds.map (·.reason)) = some [.carrier])
      ∧ (suspended.carrier? carrierA = some .suspended ∧ (suspended.writable? 1).isSome = true
        ∧ ((after (.carrierSet 7 carrierA .active) suspended).visit? 1).map (·.holds) = some []) :=
  ⟨⟨ready_of rfl, gate_turn, gate_visits⟩, ⟨ready_of rfl, turn_of (by decide +kernel), suspended_visits⟩, by decide +kernel⟩

/-! ### Witnesses: the lanes' requests of the Book Engine -/

/-- `gate` with a booking put in place of another. -/
def withBook (book : List Booking) (s : State) : State := { s with be := { s.be with book } }

/-- Bookings of one plate. -/
def samePlate (l : List Booking) : List Booking := l.map fun b => { b with plate := some (plateNo 1) }

/-- Visit 3 STAGED, claiming booking 8. -/
def stagedGate : State :=
  let b : Booking := { booking 8 .arrived (some 3) 1020 with plate := some (plateNo 1) }
  let s := withVisit 3 (fun _ => { visit 3 .staged 8 with staging := some { minute := 990, eligible := true } })
    (withBook (gate.be.book ++ [b]) gate)
  { s with vt := { s.vt with stagedIn := [3] }, td := { s.td with queue := [] } }

theorem stagedGate_book : stagedGate.bookOk := by unfold State.bookOk; decide +kernel

theorem stagedGate_visits : stagedGate.visitsOk := by unfold State.visitsOk holdsOk; decide +kernel

theorem witness_SearchPrefersEarliest :
    gate.search (.plate [80]) = .none
      ∧ gate.search (.plate (plateNo 1)) = .one (refNo 1)
      ∧ gate.search (.plate (plateNo 2)) = .one (refNo 2)
      ∧ (withBook (samePlate [booking 1 .opened none 990, booking 9 .opened none 990, booking 2 .lapsed none 900]) gate).search
          (.plate (plateNo 1)) = .two (refNo 1) (refNo 9)
      ∧ (withBook (samePlate [booking 1 .opened none 990, booking 8 .opened none 990, booking 9 .opened none 990]) gate).search
          (.plate (plateNo 1)) = .many 3
      ∧ (withBook (samePlate [booking 1 .opened none 1020, booking 9 .opened none 990]) gate).search (.plate (plateNo 1))
          = .one (refNo 9)
      ∧ stagedGate.search (.plate (plateNo 1)) = .resume 3 (refNo 8) := by
  decide +kernel

/-- Lane 1 in IDENTIFY with visit 1, which claims nothing yet, and a request in flight. -/
def asking (f : Flight) (s : State) : State :=
  withVisit 1 (fun v => { v with claimed := [], moves := [] })
    (lane1 (fun x => { x with state := .identify, identTold := false, request := f }) s)

/-- `asking` a search of a plate. -/
def seeking (s : State) : State := asking (.search (.plate (plateNo 1))) s

theorem witness_BookSearchServed :
    gate.nextFlight = none
      ∧ ((seeking gate).nextGrant = .lane 0 ∧ ((seeking gate).lane 0).owed = []
        ∧ ((seeking gate).lane 0).request = .search (.plate (plateNo 1)) ∧ ((seeking gate).lane 0).state = .identify
        ∧ ((seeking gate).lane 0).visit.isSome = true ∧ ((seeking gate).lane 0).keptExpiry = false
        ∧ ((after .bookSearch (seeking gate)).lane 0).request = .claim [refNo 1])
      ∧ ((after .bookSearch (seeking stagedGate)).lane 0).request = .claim [refNo 8]
      ∧ (let s := withBook (samePlate [booking 1 .opened none 990, booking 9 .opened none 990]) (seeking gate);
        ((after .bookSearch s).lane 0).request = .claim [refNo 1, refNo 9])
      ∧ (let s := withBook (samePlate [booking 1 .opened none 990, booking 8 .opened none 990, booking 9 .opened none 990])
          (seeking gate);
        s.search (.plate (plateNo 1)) = .many 3 ∧ ((after .bookSearch s).lane 0).promptMode = .enterRef)
      ∧ (let s := lane1 (fun x => { x with state := .fault .stopped }) (seeking gate);
        s.nextGrant = .lane 0 ∧ ((after .bookSearch s).lane 0).keptAnswers = [.search (.one (refNo 1))])
      ∧ (let s := lane1 (fun x => { x with keptExpiry := true }) (seeking gate);
        s.nextGrant = .lane 0 ∧ ((after .bookSearch s).lane 0).state = .held) := by
  decide +kernel

theorem claiming_visits : (asking (.claim [refNo 1, refNo 2]) gate).visitsOk := by
  unfold State.visitsOk holdsOk
  decide +kernel

theorem witness_ClaimBindsBookings :
    gate.nextFlight = none
      ∧ (let s := asking (.claim [refNo 1, refNo 2]) gate;
        s.nextGrant = .lane 0 ∧ (s.lane 0).owed = [] ∧ (s.lane 0).request = .claim [refNo 1, refNo 2]
          ∧ (s.lane 0).visit = some 1 ∧ (s.writable? 1).map (fun v => (v.stage, v.claimed)) = some (.atLane, [])
          ∧ [1, 2].map (fun i => ((after .claim s).booking? (refNo i)).map fun b => (b.state, b.claimant))
            = [some (.arrived, some 1), some (.arrived, some 1)])
      ∧ (let s := asking (.claim [refNo 1, refNo 2, refNo 9])
          (withBook [booking 1 .opened none 990, booking 2 .lapsed none 900, booking 9 .opened none 1020] gate);
        s.nextGrant = .lane 0 ∧ (after .claim s).be.book = s.be.book)
      ∧ (let s := asking (.claim [refNo 8]) stagedGate;
        s.nextGrant = .lane 0 ∧ (s.stagedClaimant { booking 8 .arrived (some 3) 1020 with plate := some (plateNo 1) }).isSome = true
          ∧ ((after .claim s).visit? 1).map (·.stage) = some .closed ∧ ((after .claim s).lane 0).visit = some 3) := by
  decide +kernel

theorem witness_claimResumes :
    (asking (.claim [refNo 8]) stagedGate).standingsOk
      ∧ (let s := asking (.claim [refNo 8]) stagedGate
        let t := after .claim s;
        (s.writable? 1).map (fun v => (v.moves, v.lane)) = some ([], some 0) ∧ (s.lane 0).state = .identify
          ∧ (t.visit? 3).map (fun v => (v.stage, v.lane, v.staging, v.direction)) = some (.atLane, some 0, none, none)
          ∧ (t.visit? 3).map (·.claimed.map (·.standing)) = some [.onTime]
          ∧ t.vt.stagedIn = [] ∧ 3 ∈ t.vt.changed ∧ (t.lane 0).state = .checking)
      ∧ (let s := asking (.claim [refNo 8]) (atMinute 960 .locked stagedGate)
        let t := after .claim s;
        s.stagingCount = 1 ∧ (s.lane 0).link.online = true ∧ (t.lane 0).state = .directed ∧ (t.lane 0).visit = some 3
          ∧ (t.visit? 3).map (fun v => (v.staging, v.direction))
            = some (some { minute := 990, eligible := false }, some (.staging 990))) :=
  ⟨standings_of (by decide +kernel) (by decide +kernel) (by decide +kernel) (by decide +kernel) (by decide +kernel)
    , by and_intros <;> decide +kernel⟩

theorem witness_claimRecords :
    (asking (.claim [refNo 1, refNo 2]) gate).bookOk ∧ (asking (.claim [refNo 8]) stagedGate).bookOk :=
  ⟨book_of rfl, by unfold State.bookOk; decide +kernel⟩

/-- A command in progress of the port. -/
def inPhase (cmd : Instr) (phase : Phase) (s : State) : State :=
  { s with cp := { s.cp with inProgress := some { tag := 9, cmd, phase } } }

/-- The first window of `gate` due, with a booking in it that staged visit 3 claims. -/
def abandoning : State :=
  let s := withVisit 3 (fun _ => { visit 3 .staged 8 with staging := some { minute := 990, eligible := true } })
    (withBook (gate.be.book ++ [booking 8 .arrived (some 3) 990]) dueGate)
  { s with vt := { s.vt with stagedIn := [3] }, td := { s.td with queue := [] } }

theorem witness_retirementAbandons :
    abandoning.portSteady ∧ abandoning.bookOk ∧ abandoning.visitsOk ∧ abandoning.claimsOk ∧ abandoning.retirementHeld = true
      ∧ (abandoning.visit? 3).map (fun v => (v.stage, v.ending)) = some (.staged, none)
      ∧ ((after .retirement abandoning).visit? 3).map (·.stage) = some .closed
      ∧ ((after .retirement abandoning).booking? (refNo 8)).map (fun b => (b.state, b.claimant)) = some (.lapsed, none)
      ∧ (after .retirement abandoning).vt.stagedIn = []
      ∧ (abandoning.booking? (refNo 3)).map (fun b => (b.tag, b.state, b.claimant)) = some (990, .arrived, some 1)
      ∧ (abandoning.visit? 1).map (·.stage) = some .atLane
      ∧ (after .retirement abandoning).booking? (refNo 3) = abandoning.booking? (refNo 3) :=
  ⟨fun _ h => absurd h (by rw [show abandoning.cp.inProgress = none by decide +kernel]; simp), by unfold State.bookOk; decide +kernel
    , by unfold State.visitsOk holdsOk; decide +kernel
    , claims_of (by decide +kernel) (by decide +kernel) (by decide +kernel) (by decide +kernel), by and_intros <;> decide +kernel⟩

theorem witness_abandoningStands : abandoning.standingsOk :=
  standings_of (by decide +kernel) (by decide +kernel) (by decide +kernel) (by decide +kernel) (by decide +kernel)

theorem witness_retirementSettles :
    (let s := inPhase (.timeSet 9 1040) (.retiring .ok (some 990)) dueGate;
      s.retirementHeld = true ∧ (after .retirement s).retirementHeld = false ∧ reply .retirement s = some (.ok, []))
      ∧ (let s := inPhase (.timeSync 9 1045) (.recoverForward 1045 (some 990)) dueGate;
        s.retirementHeld = true ∧ (after .retirement s).tb.target = some 1045
          ∧ (after .retirement s).cp.inProgress.map (·.phase) = some .catchUp)
      ∧ (let s := inPhase (.timeSync 9 1040) (.recoverForward 1040 (some 990)) dueGate;
        reply .retirement s = some (.ok, []) ∧ (after .retirement s).tb.target = none)
      ∧ (let s := inPhase (.timeSync 9 1039) (.recoverBackward 1 (some 990)) dueGate;
        reply .retirement s = some (.ok, []) ∧ (after .retirement s).tb.lead = 1)
      ∧ (let s := inPhase (.timeSync 9 1099) (.recoverBackward 1 (some 1020)) (atMinute 1100 .locked gate);
        (after .retirement s).retirementHeld = true ∧ reply .retirement s = none ∧ (after .retirement s).tb.lead = 0)
      ∧ (let s := inPhase (.settingsWrite 9 noSettings) (.retiring .ok (some 990)) (atMinute 1100 .locked gate);
        (after .retirement s).retirementHeld = true ∧ reply .retirement s = some (.ok, [])) := by
  and_intros <;> decide +kernel

/-- Lane 1 claims booking 1 of `gate`, its record changed. -/
def claims1 (f : Booking → Booking) (s : State) : State :=
  asking (.claim [refNo 1]) (withBook [f (booking 1 .opened none 990)] s)

/-- The standing and the window of booking 1, and the holds of visit 1, once CLAIM has served. -/
def judged1 (s : State) : Option Standing × Option Nat × Option (List HoldReason) :=
  let t := after .claim s
  (((t.visit? 1).bind (·.claimed[0]?)).map (·.standing), (t.booking? (refNo 1)).map (·.tag)
    , (t.visit? 1).map (·.holds.map (·.reason)))

theorem witness_claimStandings :
    (let s := withVisit 1 (fun v => { v with ending := some .turnBack }) (asking (.claim [refNo 1]) gate);
      s.nextGrant = .lane 0 ∧ (s.lane 0).visit.bind s.writable? = none ∧ ((after .claim s).lane 0).request = .none)
      ∧ judged1 (claims1 id gate) = (some .onTime, some 990, some [])
      ∧ judged1 (claims1 id (atMinute 1025 .locked gate)) = (some .lateGrace, some 990, some [])
      ∧ judged1 (claims1 (fun b => { b with state := .lapsed, tag := 900 }) gate) = (some .lateAbsorbed, some 990, some [])
      ∧ (let s : State := { gate with be := { gate.be with ring := [window 990 5 1 5 0] } };
        judged1 (claims1 (fun b => { b with state := .lapsed, tag := 900 }) s) = (some .lateUnplaced, some 900, some [.noSlot]))
      ∧ judged1 (claims1 id (atMinute 1000 .lost gate)) = (some .unjudged, some 990, some [])
      ∧ judged1 (claims1 (fun b => { b with state := .lapsed, tag := 900 }) (atMinute 1000 .lost gate))
        = (some .unjudged, some 900, some [.noSlot]) := by
  and_intros <;> decide +kernel

theorem witness_claimStages :
    (let s := claims1 (fun b => { b with tag := 1020 }) (atMinute 960 .locked gate);
      (s.lane 0).state = .identify ∧ s.stagingCount = 0 ∧ (s.lane 0).link.online = true
        ∧ judged1 s = (some .earlyStaged, some 1020, some [])
        ∧ ((after .claim s).lane 0).sendOff.map (fun o => (o.dest, o.minute)) = some (.staging, some 990)
        ∧ ((after .claim s).visit? 1).map (·.staging) = some (some { minute := 990, eligible := false }))
      ∧ (let s := claims1 (fun b => { b with tag := 1020 })
          (atMinute 960 .locked { gate with vt := { gate.vt with stagedIn := List.range 24 } });
        s.stagingCount = 24 ∧ ((after .claim s).lane 0).request = .reserve 990
          ∧ ((after .claim s).lane 0).owed = [.ending 1 .abandon]
          ∧ ((after .claim s).visit? 1).map (·.ending) = some (some .abandon))
      ∧ (let claims := fun cg => asking (.claim [refNo 1, refNo 9]) { withBook [booking 1 .opened none 1020, booking 9 .opened none 1020]
            { gate with cfg := { gate.cfg with e := 0 } } with be := { gate.be with
              book := [booking 1 .opened none 1020, booking 9 .opened none 1020], ring := [window 990 cg 1 5 0, window 1020 9 1 2 0] } }
        let standings := fun s => ((after .claim s).visit? 1).map (·.claimed.map (·.standing));
        standings (claims 6) = some [.earlyStaged, .earlyStaged] ∧ standings (claims 7) = some [.earlyPulled, .earlyPulled]) := by
  and_intros <;> decide +kernel

theorem witness_AdmissionAdmits :
    gate.nextGrant = .none
      ∧ (let s := inPhase (.deskSend 9 1) (.admitting 2) gate;
        s.nextGrant = .port ∧ ((after .admission s).booking? (refNo 6)).map (·.state) = some .admitted
          ∧ reply .admission s = some (.ok, [.absent]))
      ∧ (let s := lane1 (fun x => { x with owed := [.admission 1] }) gate;
        s.nextGrant = .lane 0 ∧ (s.lane 0).owed = [.admission 1]
          ∧ ((after .admission s).booking? (refNo 3)).map (·.state) = some .admitted) := by
  decide +kernel

theorem witness_EndingBookingsSettles :
    gate.bookOk ∧ gate.visitsOk ∧ gate.nextGrant = .none
      ∧ (let s := inPhase (.visitClose 9 4) (.ending 4 .close) gate;
        s.nextGrant = .port ∧ (s.visit? 4).map (·.stage) = some .released
          ∧ ((after .endingBookings s).booking? (refNo 7)).map (fun b => (b.state, b.flags.incomplete)) = some (.consumed, true)
          ∧ reply .endingBookings s = some (.ok, [.byte 1]))
      ∧ (let s := inPhase (.deskTurnBack 9 1) (.ending 2 .turnBack) gate;
        s.nextGrant = .port ∧ ((after .endingBookings s).booking? (refNo 6)).map (·.state) = some .opened)
      ∧ (let s := lane1 (fun x => { x with owed := [.ending 1 .turnBack] }) gate;
        s.nextGrant = .lane 0 ∧ (s.lane 0).owed = [.ending 1 .turnBack]
          ∧ ((after .endingBookings s).visit? 1).map (·.stage) = some .closed) :=
  ⟨gate_book, gate_visits, by decide +kernel⟩

theorem witness_endingReserve :
    (let s := lane1 (fun x => { x with state := .identify, request := .reserve 990, owed := [.ending 1 .abandon] })
        (withVisit 1 (fun v => { v with ending := some .abandon }) gate);
      s.nextGrant = .lane 0 ∧ (s.lane 0).armUp = false
        ∧ ((after .endingBookings s).visit? 1).map (·.stage) = some .closed
        ∧ ((after .endingBookings s).lane 0).sendOff.map (fun o => (o.dest, o.minute)) = some (.back, some 990)
        ∧ ((after .endingBookings s).lane 0).visit = none
        ∧ ((after .endingBookings s).lane 0).timer .raise = .running 6) := by
  decide +kernel

/-! ### Witnesses: holds, visits and the changed set -/

/-- Lane 1 DIRECTED with the visit on a YARD send-off whose ticket is awaited. -/
def yardLane (s : State) : State :=
  lane1 (fun x => { x with
    state := .directed
    sendOff := some { dest := .yard, ticket := .awaited, raiseOrdered := false, minute := none, ticketId := 0 } }) s

theorem witness_HoldPlaceFollowsTable :
    gate.portReady ∧ gate.visitsOk
      ∧ reply (.holdPlace 7 1 .driver (some 0)) gate = some (.badValue, [])
      ∧ reply (.holdPlace 7 1 .driver (some 5)) gate = some (.badValue, [])
      ∧ reply (.holdPlace 7 1 .noYard none) gate = some (.badValue, [])
      ∧ reply (.holdPlace 7 1 .withdrawn none) gate = some (.badValue, [])
      ∧ (gate.live? 5 = none ∧ reply (.holdPlace 7 5 .driver none) gate = some (.notFound, []))
      ∧ reply (.holdPlace 7 1 .driver (some 1)) gate = some (.wrongState, [])
      ∧ reply (.holdPlace 7 1 .driver (some 4)) gate = some (.wrongState, [])
      ∧ ((gate.live? 4).map (·.stage) = some .released ∧ reply (.holdPlace 7 4 .driver none) gate = some (.wrongState, []))
      ∧ ((gate.live? 2).map (·.ending) = some none ∧ reply (.holdPlace 7 2 .driver (some 1)) gate = some (.ok, [.byte 0]))
      ∧ reply (.holdPlace 7 2 .clerk (some 1)) gate = some (.ok, [.byte 1])
      ∧ (sixHeld.portReady ∧ reply (.holdPlace 7 1 .damage none) sixHeld = some (.full, []))
      ∧ (let s := withVisit 1 (fun v => { v with holds := hold .clerk :: sixHolds.tail }) gate;
        reply (.holdPlace 7 1 .damage none) s = some (.ok, [.byte 2]))
      ∧ (let s := yardLane gate;
        (s.lane 0).state = .directed ∧ ((after (.holdPlace 7 1 .damage none) s).lane 0).state = .held) :=
  ⟨ready_of rfl, gate_visits, by and_intros <;> first | exact ready_of rfl | decide +kernel⟩

/-- Lane 1 HELD, its visit with one hold. -/
def heldLane (s : State) : State :=
  withVisit 1 (fun v => { v with holds := [hold .driver] }) (lane1 (fun x => { x with state := .held }) s)

theorem held_visits : (heldLane gate).visitsOk := by unfold State.visitsOk holdsOk; decide +kernel

theorem witness_HoldReleaseRemoves :
    (heldLane gate).portReady ∧ (heldLane gate).visitsOk
      ∧ reply (.holdRelease 7 1 .driver (some 0)) gate = some (.badValue, [])
      ∧ reply (.holdRelease 7 6 .driver none) gate = some (.notFound, [.byte 0])
      ∧ reply (.holdRelease 7 1 .driver (some 1)) gate = some (.wrongState, [])
      ∧ reply (.holdRelease 7 1 .noYard none) gate = some (.wrongState, [])
      ∧ reply (.holdRelease 7 1 .driver none) gate = some (.notFound, [.byte 1])
      ∧ ((gate.live? 3).map (fun v => (v.stage, v.holds)) = some (.queued, [hold .clerk])
        ∧ reply (.holdRelease 7 3 .clerk none) gate = some (.ok, [.byte 1]))
      ∧ (let s := heldLane gate;
        (s.live? 1).map (fun v => (v.stage, v.lane, v.holds)) = some (.atLane, some 0, [hold .driver])
          ∧ (s.lane 0).visit = some 1 ∧ (s.lane 0).state = .held ∧ (s.lane 0).request = .none
          ∧ reply (.holdRelease 7 1 .driver none) s = some (.ok, [.byte 0])
          ∧ ((after (.holdRelease 7 1 .driver none) s).lane 0).request = .direction)
      ∧ reply (.holdRelease 7 1 .carrier none) sixHeld = some (.ok, [.byte 0]) :=
  ⟨ready_of rfl, held_visits, by and_intros <;> decide +kernel⟩

theorem witness_TakeChangedReportsHead :
    gate.portIdle ∧ gate.visitsOk
      ∧ (closedGate.vt.changed = [] ∧ reply (.takeChanged 7) closedGate = some (.empty, []))
      ∧ (gate.vt.changed = [1, 5] ∧ (gate.visit? 1).map (·.stage) = some .atLane
        ∧ (after (.takeChanged 7) gate).vt.changed = [5])
      ∧ (let s : State := { gate with vt := { gate.vt with changed := [5, 1] } };
        (s.visit? 5).map (·.stage) = some .closed ∧ s.vt.slotWait = [] ∧ ((after (.takeChanged 7) s).visit? 5).isNone = true)
      ∧ (let s : State := { gate with
          vt := { gate.vt with changed := [5, 1], slotWait := [1] }
          lanes := gate.lanes.set 1 { Lane.reset false with state := .identify } };
        (s.visit? 5).map (·.stage) = some .closed ∧ s.vt.slotWait = [1]
          ∧ ((after (.takeChanged 7) s).lane 1).visit = some 6) :=
  ⟨(ready_of rfl).1, gate_visits, by decide +kernel⟩

/-! ### Witnesses: lane commands -/

/-- LANE_CONFIG that gives nothing. -/
def noConfig : LaneConfigOp :=
  { polarity := Vector.replicate 6 none, mode := Vector.replicate 6 none, sample := none, depth := none, raiseLimit := none
    axleTwinMin := none, parkAfter := none, pedestalLimit := none, holdLimit := none, clearLimit := none, linkRate := none }

/-- `gate` with eight lanes strapped. -/
def eightLanes : State := { gate with strap := 8 }

theorem witness_LaneConfigAndOpen :
    gate.portReady ∧ eightLanes.portReady
      ∧ reply (.laneConfig 7 2 { noConfig with sample := some 3 }) gate = some (.badValue, [])
      ∧ reply (.laneConfig 7 0 noConfig) gate = some (.badValue, [])
      ∧ reply (.laneConfig 7 13 noConfig) gate = some (.badValue, [])
      ∧ (eightLanes.strap = 8 ∧ reply (.laneConfig 7 9 noConfig) eightLanes = some (.outOfRange, [])
        ∧ reply (.laneConfig 7 8 noConfig) eightLanes = some (.ok, []))
      ∧ ((gate.lane 0).state ≠ .closed ∧ reply (.laneConfig 7 1 noConfig) gate = some (.wrongState, []))
      ∧ ((gate.lane 1).state = .closed ∧ (gate.lane 1).output = .withdrawn
        ∧ reply (.laneConfig 7 2 { noConfig with depth := some 8 }) gate = some (.ok, [])
        ∧ reply (.laneConfig 7 2 { noConfig with depth := some 9 }) gate = some (.okClamped, [])
        ∧ ((after (.laneConfig 7 2 { noConfig with depth := some 9 }) gate).lane 1).cfg.depth = 8
        ∧ ((after (.laneConfig 7 2 { noConfig with linkRate := some 9600 }) gate).lane 1).cfg.linkRate = 9600) :=
  ⟨ready_of rfl, ready_of rfl, by decide +kernel⟩

/-- Lane 2 in a state. -/
def lane2 (f : Lane → Lane) (s : State) : State := s.modLane 1 f

/-- A stop-all is in force by command. -/
def stopped (s : State) : State := { s with stop := { s.stop with commandSource := true } }

/-- An open link whose pedestal keeps CTS down. -/
def online : Link := { Link.reset false with online := true }

theorem witness_openOpens :
    gate.portReady ∧ eightLanes.portReady ∧ closedGate.portReady ∧ (stopped gate).portReady
      ∧ reply (.laneOpen 7 0) gate = some (.badValue, [])
      ∧ reply (.laneOpen 7 13) gate = some (.badValue, [])
      ∧ reply (.laneOpen 7 9) eightLanes = some (.outOfRange, [])
      ∧ (closedGate.tb.clock = .unset ∧ reply (.laneOpen 7 12) closedGate = some (.clockUnset, []))
      ∧ reply (.laneOpen 7 1) gate = some (.wrongState, [])
      ∧ (let s := lane2 (fun x => { x with link := online }) gate;
        (s.lane 1).state = .closed ∧ (s.lane 1).output = .withdrawn ∧ s.stop.inForce = false ∧ (s.lane 1).closing = false
          ∧ (s.lane 1).memApproach = false ∧ (s.lane 1).memStop = false ∧ (s.lane 1).link.cts = false
          ∧ reply (.laneOpen 7 2) s = some (.ok, []) ∧ ((after (.laneOpen 7 2) s).lane 1).state = .idle
          ∧ ((after (.laneOpen 7 2) s).lane 1).link.txQueue = [.resetKiosk])
      ∧ ((stopped gate).stop.inForce = true ∧ ((after (.laneOpen 7 2) (stopped gate)).lane 1).state = .fault .stopped) :=
  ⟨ready_of rfl, ready_of rfl, ready_of rfl, ready_of rfl, by decide +kernel⟩

theorem witness_LaneCloseCloses :
    gate.portReady ∧ eightLanes.portReady
      ∧ reply (.laneClose 7 0) gate = some (.badValue, []) ∧ reply (.laneCloseForce 7 13) gate = some (.badValue, [])
      ∧ reply (.laneClose 7 9) eightLanes = some (.outOfRange, [])
      ∧ reply (.laneCloseForce 7 9) eightLanes = some (.outOfRange, [])
      ∧ (reply (.laneClose 7 2) gate = some (.ok, []) ∧ reply (.laneCloseForce 7 2) gate = some (.ok, []))
      ∧ ((gate.lane 0).state = .checking ∧ reply (.laneClose 7 1) gate = some (.ok, [])
        ∧ ((after (.laneClose 7 1) gate).lane 0).closing = true)
      ∧ (let s := lane2 (fun x => { x with state := .idle }) gate;
        ((after (.laneClose 7 2) s).lane 1).state = .closed ∧ reply (.laneCloseForce 7 2) s = some (.ok, []))
      ∧ (let s := lane2 (fun x => { x with state := .identify }) gate;
        (s.lane 1).visit = none ∧ ((after (.laneClose 7 2) s).lane 1).state = .closed)
      ∧ ((gate.lane 0).visit = some 1 ∧ (gate.visit? 1).isSome = true
        ∧ (after (.laneCloseForce 7 1) gate).cp.inProgress.map (·.phase) = some (.ending 1 .turnBack)
        ∧ ((after (.laneCloseForce 7 1) gate).lane 0).state = .closed
        ∧ ((after (.laneCloseForce 7 1) gate).lane 0).visit = some 1) :=
  ⟨ready_of rfl, ready_of rfl, by decide +kernel⟩

/-- The visit at lane 1 with its move directed to block 0, and its stop direction. -/
def directedGate : State := withVisit 1 (fun v => { v with
  moves := [dropEntry 3 .directed (some 0) .closed]
  direction := some (.stops [{ block := 0, label := [65], route := 7, moves := [(.exportDrop, some box)] }]) }) gate

theorem witness_forceCancels :
    (let t := after (.laneCloseForce 7 1) directedGate;
      directedGate.portReady ∧ directedGate.yd.waitList = []
        ∧ (t.visit? 1).map (fun v => (v.moves.map fun m => (m.state, m.block), v.direction)) = some ([(.cancelled, none)], none)
        ∧ (t.yd.blocks[0].credit, t.yd.blocks[0].inTransit) = (6, 0)) :=
  ⟨ready_of rfl, by decide +kernel⟩

/-- Lane 1 in FAULT STOPPED, remembering a state. -/
def stoppedIn (r : LaneState) (s : State) : State :=
  lane1 (fun x => { x with
    state := .fault .stopped
    remembered := some { state := r, levels := x.filters.map (·.level), boomCount := x.boomCount } }) s

/-- A jam on a BACK send-off, the arm up or not. -/
def jammedBack (up : Bool) (s : State) : State :=
  lane1 (fun x => { x with
    state := .fault .boomJam, filters := x.filters.set 5 { level := up, run := 0 }
    sendOff := some { dest := .back, ticket := .none, raiseOrdered := true, minute := none, ticketId := 0 } }) s

theorem witness_jammedBackBeginsAnew :
    (jammedBack false gate).portReady ∧ (jammedBack true gate).portReady
      ∧ ((jammedBack false gate).lane 0).visit = some 1 ∧ ((jammedBack true gate).lane 0).visit = some 1
      ∧ (((jammedBack false gate).lane 0).armUp = false
        ∧ ((after (.laneRecover 7 1) (jammedBack false gate)).lane 0).state = .directed
        ∧ ((after (.laneRecover 7 1) (jammedBack false gate)).lane 0).output = .asserted)
      ∧ (((jammedBack true gate).lane 0).armUp = true
        ∧ ((after (.laneRecover 7 1) (jammedBack true gate)).lane 0).state = .releasing
        ∧ ((after (.laneRecover 7 1) (jammedBack true gate)).lane 0).visit = some 1) :=
  ⟨ready_of rfl, ready_of rfl, by decide +kernel⟩

/-- A lane stopped in each state that calls for no further action is resumed into it. -/
theorem witness_quietlyResumed :
    let resumed := fun (s : State) => ((after (.laneRecover 7 1) s).lane 0).state
    let idle := fun (s : State) => lane1 (fun x => { x with visit := none }) s
    let held := fun (s : State) => withVisit 1 (fun v => { v with holds := [hold .clerk] }) s
    (stoppedIn .held gate).portReady
      ∧ resumed (idle (stoppedIn .parked gate)) = .parked ∧ resumed (idle (stoppedIn .approach gate)) = .approach
      ∧ resumed (stoppedIn .identify gate) = .identify ∧ resumed (stoppedIn .checking gate) = .checking
      ∧ (resumed (stoppedIn .held gate) = .held
        ∧ ((after (.laneRecover 7 1) (stoppedIn .held gate)).lane 0).request = .direction)
      ∧ (resumed (held (stoppedIn .held gate)) = .held
        ∧ ((after (.laneRecover 7 1) (held (stoppedIn .held gate))).lane 0).request = .none)
      ∧ resumed (stoppedIn .directed (yardLane gate)) = .directed
      ∧ resumed (idle (stoppedIn .releasing gate)) = .releasing
      ∧ resumed (stoppedIn (.fault .boomJam) gate) = .fault .boomJam :=
  ⟨ready_of rfl, by decide +kernel⟩

theorem witness_LaneRecoverRecovers :
    gate.portReady ∧ eightLanes.portReady ∧ (stoppedIn .idle gate).portReady
      ∧ reply (.laneRecover 7 0) gate = some (.badValue, []) ∧ reply (.laneRecover 7 13) gate = some (.badValue, [])
      ∧ reply (.laneRecover 7 9) eightLanes = some (.outOfRange, [])
      ∧ reply (.laneRecover 7 1) gate = some (.wrongState, [])
      ∧ (let s := lane2 (fun x => { x with state := .fault .stalled }) gate;
        (s.lane 1).visit = none ∧ (s.lane 1).output = .withdrawn ∧ [Input.approach, .stop, .boom, .exit].all (fun i => !(s.lane 1).reads i) = true
          ∧ (s.lane 1).closing = false ∧ (s.lane 1).memApproach = false ∧ (s.lane 1).memStop = false
          ∧ ((after (.laneRecover 7 2) s).lane 1).state = .idle)
      ∧ (let s := lane1 (fun x => { x with state := .fault .boomJam }) gate;
        (s.lane 0).visit = some 1 ∧ (s.lane 0).sendOff = none ∧ ((after (.laneRecover 7 1) s).lane 0).state = .held)
      ∧ (let s := lane1 (fun x => { x with state := .fault .boomJam }) (yardLane gate);
        (s.lane 0).sendOff.isSome = true ∧ (s.lane 0).link.online = true
          ∧ ((after (.laneRecover 7 1) s).lane 0).state = .directed)
      ∧ (let s := lane1 (fun x => { x with state := .fault .boomJam, link := Link.reset false }) (yardLane gate);
        (s.lane 0).link.online = false ∧ (s.writable? 1).map (fun v => (v.stage, v.holds)) = some (.atLane, [])
          ∧ ((after (.laneRecover 7 1) s).lane 0).state = .held
          ∧ ((after (.laneRecover 7 1) s).visit? 1).map (·.holds.map (·.reason)) = some [.linkDown])
      ∧ (let s := lane1 (fun x => { x with visit := none }) (stoppedIn .idle gate);
        s.stop.inForce = false ∧ (s.lane 0).keptAnswers = [] ∧ (s.lane 0).link.rxBuf = none
          ∧ ((after (.laneRecover 7 1) s).lane 0).state = .idle)
      ∧ reply (.laneRecover 7 1) (stopped (stoppedIn .idle gate)) = some (.wrongState, []) :=
  ⟨ready_of rfl, ready_of rfl, ready_of rfl, by decide +kernel⟩

theorem witness_PlateReportWrites :
    gate.portReady ∧ eightLanes.portReady
      ∧ (plateForm [] = false ∧ reply (.plateReport 7 1 []) gate = some (.badValue, []))
      ∧ reply (.plateReport 7 0 (plateNo 1)) gate = some (.badValue, [])
      ∧ reply (.plateReport 7 9 (plateNo 1)) eightLanes = some (.outOfRange, [])
      ∧ ((gate.lane 1).visit = none ∧ reply (.plateReport 7 2 (plateNo 1)) gate = some (.wrongState, []))
      ∧ (let s := lane2 (fun x => { x with state := .approach }) gate;
        ((after (.plateReport 7 2 (plateNo 1)) s).lane 1).pendingPlate = some (plateNo 1))
      ∧ (plateForm (plateNo 1) = true ∧ (gate.lane 0).visit = some 1 ∧ gate.claimedRefs 1 = [refNo 3]
        ∧ ((after (.plateReport 7 1 (plateNo 1)) gate).visit? 1).map (·.plate) = some (some (plateNo 1)))
      ∧ (let s := asking .none gate;
        s.claimedRefs 1 = [] ∧ ((after (.plateReport 7 1 (plateNo 1)) s).lane 0).request = .search (.plate (plateNo 1)))
      ∧ (let s := withVisit 1 (fun v => { v with ending := some .turnBack }) gate;
        (s.visit? 1).any (·.ending.isSome) = true ∧ reply (.plateReport 7 1 (plateNo 1)) s = some (.wrongState, []))
      ∧ ((after (.plateReport 7 1 (plateNo 1)) (asking (.claim [refNo 1]) gate)).lane 0).plateToSearch = true
      ∧ (let s := stoppedIn .identify (asking .none gate);
        (s.lane 0).state = .fault .stopped ∧ ((after (.plateReport 7 1 (plateNo 1)) s).lane 0).request = .none) :=
  ⟨ready_of rfl, ready_of rfl, by decide +kernel⟩

theorem witness_StopAllStopsAndEnds :
    gate.portReady ∧ (stopped gate).portReady
      ∧ (gate.stop.inputSource = false ∧ reply (.stopAllSet 7) gate = some (.ok, [])
        ∧ ((after (.stopAllSet 7) gate).lane 0).state = .fault .stopped)
      ∧ (gate.cfg.stopInput = .both ∧ gate.stop.filter.level = false
        ∧ (after .stopOn gate).stop.inputSource = true ∧ (after .stopOn gate).cp.flags.stopAll = true)
      ∧ ((after .stopOn gate).stop.filter.level = true ∧ reply (.stopAllClear 7) (after .stopOn gate) = some (.wrongState, [])
        ∧ (after .stopOff (after .stopOn gate)).stop.inputSource = false)
      ∧ (let s := stopped (stoppedIn .checking { gate with cfg := { gate.cfg with restart := .auto } });
        s.cfg.restart = .auto ∧ s.stop.inForce = true ∧ s.stop.inputSource = false
          ∧ ((after (.stopAllClear 7) s).lane 0).state = .checking ∧ ((after (.stopAllClear 7) s).lane 0).remembered = none)
      ∧ (let s := stopped (stoppedIn .checking gate);
        s.cfg.restart = .byCommand ∧ ((after (.stopAllClear 7) s).lane 0).state = .fault .stopped)
      ∧ (let s : State := { gate with cfg := { gate.cfg with stopInput := .off } };
        s.cfg.stopInput = .off ∧ (after .stopOn s).stop.inputSource = false ∧ (after .stopOff s).stop.inputSource = false) :=
  ⟨ready_of rfl, ready_of rfl, by decide +kernel⟩

/-- A stop-all by command with RESTART AUTO. -/
def autoStopped (s : State) : State := stopped { s with cfg := { s.cfg with restart := .auto } }

theorem witness_autoResumes :
    (let s := autoStopped (lane1 (fun x => { x with visit := none, timers := x.timers.set 4 (.suspended 9) })
        (stoppedIn .idle gate));
      (s.lane 0).keptAnswers = [] ∧ (s.lane 0).link.rxBuf = none ∧ s.td.blocked = []
        ∧ ((after (.stopAllClear 7) s).lane 0).state = .idle ∧ ((after (.stopAllClear 7) s).lane 0).parkRef = some 1000
        ∧ ((after (.stopAllClear 7) s).lane 0).timer .sealWindow = .running 9)
      ∧ (let s := autoStopped (lane1 (fun x => { x with
            sendOff := some { dest := .yard, ticket := .ended, raiseOrdered := true, minute := none, ticketId := 0 } })
          (stoppedIn .directed gate));
        s.yd.waitList = [] ∧ (s.lane 0).armUp = false ∧ (s.writable? 1).map (·.holds) = some []
          ∧ (∀ k, (s.lane k).visit = some 1 → k = 0)
          ∧ ((after (.stopAllClear 7) s).lane 0).state = .directed
          ∧ ((after (.stopAllClear 7) s).lane 0).timer .raise = .running 6)
      ∧ (let s := { autoStopped (stoppedIn .held gate) with stop := { (autoStopped gate).stop with
            commandSource := false, inputSource := true, filter := { level := true, run := 0 } } };
        ((after .stopOff s).lane 0).state = .held) := by
  and_intros <;> decide +kernel

theorem witness_resumesAlone :
    (autoStopped (stoppedIn .checking gate)).standingsOk
      ∧ ((autoStopped (stoppedIn .checking gate)).lane 0).visit = some 1
      ∧ ∀ k, ((autoStopped (stoppedIn .checking gate)).lane k).lastReleased = none :=
  ⟨standings_of (by decide +kernel) (by decide +kernel) (by decide +kernel) (by decide +kernel) (by decide +kernel)
    , by decide +kernel, by decide +kernel⟩

/-! ### Witnesses: seals and damage -/

theorem witness_SealReportRecordsReads :
    gate.portReady ∧ gate.visitsOk
      ∧ (sealForm [] = false ∧ reply (.sealReport 7 1 [] none) gate = some (.badValue, []))
      ∧ reply (.sealReport 7 1 (sealNo 1) (some 3)) gate = some (.badValue, [])
      ∧ reply (.sealReport 7 6 (sealNo 1) none) gate = some (.notFound, [])
      ∧ ((gate.live? 3).map (·.moves) = some [] ∧ reply (.sealReport 7 3 (sealNo 1) none) gate = some (.wrongState, []))
      ∧ ((gate.live? 4).map (·.stage) = some .released
        ∧ reply (.sealReportVoid 7 4 (sealNo 1) none) gate = some (.wrongState, []))
      ∧ reply (.sealReportVoid 7 1 (sealNo 1) none) gate = some (.notFound, [])
      ∧ (gate.live? 1).map (fun v => (v.takeRead (sealNo 1) .host none).2) = some .drop1
      ∧ ((∀ k, (gate.lane k).visit = some 1 → k = 0) ∧ (gate.live? 1).map (·.lane) = some (some 0)
        ∧ (reply (.sealReport 7 1 (sealNo 1) none) gate).map (·.1) = some .ok)
      ∧ (let s := after (.sealReport 7 1 (sealNo 1) none) gate;
        (s.visit? 1).map (fun v => v.moves.map fun m => m.sealRec.bind (·.verdict)) = some [some .matched]
          ∧ (s.live? 1).map (fun v => (v.takeRead (sealNo 1) .host none).2) = some .again
          ∧ (reply (.sealReport 7 1 (sealNo 1) none) s).map (·.1) = some .ok
          ∧ (reply (.sealReportVoid 7 1 (sealNo 1) none) s).map (·.1) = some .ok)
      ∧ (let s := withVisit 1 (fun v => { v with moves := [dropEntry 3 .pending none .closed] }) gate;
        ((after (.sealReport 7 1 (sealNo 2) none) s).visit? 1).map (·.holds.map (·.reason)) = some [.badSeal]) :=
  ⟨ready_of rfl, gate_visits, by and_intros <;> decide +kernel⟩

/-- A visit of sealed drops of the box, each with its window state and its reads. -/
def dropsOf (l : List (WindowState × List Text)) : Visit :=
  { visit 1 .atLane 3 with
    moves := l.map fun p => { dropEntry 3 .pending none p.1 with
      sealRec := some
        { declared := [sealNo 1], reads := p.2.map fun x => { num := x, source := .host, phase := .inWindow }
          window := p.1, verdict := none } } }

/-- The numbers each drop of a visit has read, and those of its stray list. -/
def readsOf (v : Visit) : List (List Text) × List Text :=
  (v.moves.map fun m => (m.sealRec.map (·.reads.map (·.num))).getD [], v.stray.map (·.num))

theorem witness_SealReadsAndVerdicts :
    (let two := dropsOf [(.opened, []), (.opened, [])]
      let take := fun num slot => (two.takeRead num .host slot);
      readsOf (take (sealNo 1) (some 2)).1 = ([[], [sealNo 1]], [])
        ∧ readsOf (take (sealNo 1) none).1 = ([[sealNo 1], [sealNo 1]], [])
        ∧ readsOf (take (sealNo 9) (some 1)).1 = ([[sealNo 9], []], [])
        ∧ readsOf (take (sealNo 9) none).1 = ([[], []], [sealNo 9])
        ∧ readsOf ((take (sealNo 9) none).1.takeRead (sealNo 9) .host (some 2)).1 = ([[], [sealNo 9]], [])
        ∧ readsOf ((take (sealNo 9) none).1.strikeRead (sealNo 9)) = ([[], []], []))
      ∧ readsOf ((dropsOf [(.opened, [])]).takeRead (sealNo 9) .host none).1 = ([[sealNo 9]], [])
      ∧ ((dropsOf [(.opened, [sealNo 1])]).takeRead (sealNo 1) .host none).2 = .again
      ∧ ((dropsOf [(.opened, [2, 3, 4, 5].map sealNo)]).takeRead (sealNo 6) .host none).2 = .discarded
      ∧ [[], [sealNo 2], [sealNo 1, sealNo 2], [sealNo 1]].map (fun l =>
          (((dropsOf [(.opened, l)]).closeDrops .opened).moves.map fun m => m.sealRec.bind (·.verdict)))
        = [[some .unread], [some .missing], [some .foreign], [some .matched]]
      ∧ (dropsOf [(.opened, [sealNo 1])]).mayCloseEarly = true
      ∧ ((dropsOf [(.opened, [])]).closeDrops .opened).anyWrong = true := by
  and_intros <;> decide +kernel

/-- The visit at lane 1 with its seal window closed, no read taken, and hold SEAL of the lane. -/
def unread : State :=
  withVisit 1 (fun v => { v with
    moves := [dropEntry 3 .pending none .closed], holds := [{ hold .badSeal with source := .lane }] }) gate

theorem witness_matchReleases :
    ((after (.sealReport 7 1 (sealNo 1) none) unread).visit? 1).map
        (fun v => (v.moves.map fun m => m.sealRec.bind (·.verdict), v.holds)) = some ([some .matched], [])
      ∧ ((after (.sealRead 0 (sealNo 1) none) unread).visit? 1).map (·.holds) = some [] := by
  and_intros <;> decide +kernel

/-- A visit of two drops, the second that of booking 6. -/
def twinGate : State :=
  withVisit 1 (fun v => { v with moves := [dropEntry 3 .pending none .opened, dropEntry 6 .pending none .opened] }) gate

def finding (severity : Nat) : Finding := { zone := .front, severity }

theorem twin_visits : twinGate.visitsOk := by unfold State.visitsOk holdsOk; decide +kernel

theorem witness_DamageCommandsRecord :
    gate.portReady ∧ gate.visitsOk ∧ twinGate.portReady ∧ twinGate.visitsOk
      ∧ reply (.damageReport 7 1 none []) gate = some (.badValue, [])
      ∧ reply (.damageReport 7 1 none (List.replicate 8 (finding 1))) gate = some (.badValue, [])
      ∧ reply (.damageReport 7 1 none [finding 1]) twinGate = some (.badValue, [])
      ∧ reply (.damageReport 7 6 none [finding 1]) gate = some (.notFound, [])
      ∧ reply (.damageReport 7 3 none [finding 1]) gate = some (.wrongState, [])
      ∧ reply (.damageReport 7 1 (some 2) [finding 1]) gate = some (.notFound, [])
      ∧ ((gate.live? 1).map (·.drops) = some [0]
        ∧ ((gate.live? 1).bind fun v => (v.moves[0]?).bind (·.damage)) = some noDamage
        ∧ (reply (.damageReport 7 1 (some 1) (List.replicate 7 (finding 0))) gate).map (·.1) = some .ok)
      ∧ (reply (.damageReport 7 1 (some 2) [finding 4]) twinGate).map (·.1) = some .okClamped
      ∧ (let s : State := { gate with cfg := { gate.cfg with tHold := 18 } };
        ((after (.damageReport 7 1 none [finding 3]) s).visit? 1).map (·.holds.map (·.reason)) = some [.damage])
      ∧ reply (.damageDone 7 6) gate = some (.notFound, [])
      ∧ ((gate.live? 1).map (·.ending) = some none ∧ (gate.lane 0).timer .damageWindow = .stopped
        ∧ reply (.damageDone 7 1) gate = some (.ok, [.byte 1])) :=
  ⟨ready_of rfl, gate_visits, ready_of rfl, twin_visits, by and_intros <;> decide +kernel⟩

/-- Lane 1 on a YARD send-off to block 0, T_INSPECT and T_HOLD as after reset, block 1 an INSPECTION block with this
credit. -/
def inspectable (credit : Nat) : State :=
  let s := withVisit 1 (fun v => { v with moves := [dropEntry 3 .directed (some 0) .closed] })
    (lane1 (fun x => { x with
      state := .directed, output := .asserted, timers := x.timers.set 0 (.running 6)
      sendOff := some { dest := .yard, ticket := .ended, raiseOrdered := true, minute := none, ticketId := 0 } }) gate)
  { s with yd := { s.yd with blocks := s.yd.blocks.set 1 { block0 with kind := .inspection, credit, inTransit := 0 } } }

theorem inspectable_visits (credit : Nat) : (inspectable credit).visitsOk := by
  have h : (inspectable 0).visitsOk := by unfold State.visitsOk holdsOk; decide +kernel
  exact h

theorem inspectable_standings (credit : Nat) : (inspectable credit).standingsOk := by
  have h : (inspectable 0).standingsOk :=
    standings_of (by decide +kernel) (by decide +kernel) (by decide +kernel) (by decide +kernel) (by decide +kernel)
  exact h

theorem witness_damageRedirects :
    (inspectable 1).portReady ∧ (inspectable 1).visitsOk ∧ (inspectable 0).portReady ∧ (inspectable 0).visitsOk
      ∧ (let s := inspectable 1
        let t := after (.damageReport 7 1 none [finding 3]) s;
        (s.live? 1).map (fun v => (v.stage, v.holds, v.moves.map (·.state))) = some (.atLane, [], [.directed])
          ∧ s.cfg.tInspect = 12 ∧ (t.yd.blocks[0].credit, t.yd.blocks[1].credit) = (6, 0)
          ∧ (t.visit? 1).map (fun v => v.moves.map fun m => (m.state, m.block, m.damage.map (·.index)))
            = some [(.directed, some 1, some 18)]
          ∧ (t.lane 0).state = .directed ∧ (t.lane 0).timer .raise = .stopped)
      ∧ (let t := after (.damageReport 7 1 none [finding 3]) (inspectable 0);
        (t.visit? 1).map (fun v => (v.moves.map (·.state), v.holds.map (·.reason))) = some ([.pending], [.noYard])
          ∧ (t.lane 0).state = .held) :=
  ⟨ready_of rfl, inspectable_visits 1, ready_of rfl, inspectable_visits 0, by and_intros <;> decide +kernel⟩

/-- Lane 1 with a running damage window, its visit with this window state and these holds. -/
def inspecting (w : WindowState) (holds : List Hold) : State :=
  withVisit 1 (fun v => { v with moves := [dropEntry 3 .pending none w], holds })
    (lane1 (fun x => { x with timers := x.timers.set 5 (.running 20) }) gate)

theorem witness_damageWindows :
    (let s := inspecting .opened [];
      (s.lane 0).timer .damageWindow = .running 20 ∧ reply (.damageDone 7 1) s = some (.ok, [.byte 0])
        ∧ ((after (.damageDone 7 1) s).lane 0).finalTold = false)
      ∧ (let s := inspecting .closed [];
        (s.lane 0).identTold = true ∧ (s.lane 0).finalTold = false ∧ (s.lane 0).state = .checking
          ∧ ((after (.damageDone 7 1) s).lane 0).request = .direction)
      ∧ (let s := inspecting .closed [hold .driver];
        ((after (.damageDone 7 1) s).lane 0).state = .held)
      ∧ (let s := withVisit 1 (fun v => { v with ending := some .turnBack }) gate;
        reply (.damageDone 7 1) s = some (.wrongState, [])) := by
  decide +kernel

/-! ### Witnesses: the yard -/

/-- Blocks 0 and 1 open for exports with these credits. -/
def twoBlocks (a b : Nat) : Vector Block 32 :=
  (YardDirector.reset.blocks.set 0 { block0 with credit := a }).set 1 { block0 with credit := b }

theorem witness_BlockChoiceByCredit :
    chooseBlock (twoBlocks 1 9) .stackExport (some 0) = some 0
      ∧ chooseBlock (twoBlocks 0 9) .stackExport (some 0) = some 1
      ∧ chooseBlock (twoBlocks 4 4) .stackExport none = some 0
      ∧ chooseBlock (twoBlocks 4 5) .stackExport (some 32) = some 1
      ∧ chooseBlock (twoBlocks 0 0) .stackExport none = none
      ∧ (let m := dropEntry 3 .pending none .closed
        m.state = .pending ∧ neededKind gate.cfg.tInspect (gate.moveBooking m).1 m = .stackExport
          ∧ (gate.moveBooking m).2 = none ∧ chooseBlock gate.yd.blocks .stackExport none = some 0) := by
  decide +kernel

/-- BLOCK_SET that gives nothing. -/
def noFields : BlockSetOp := { opened := none, credit := none, route := none, label := none, kind := none }

theorem directed_visits : directedGate.visitsOk := by unfold State.visitsOk holdsOk; decide +kernel

theorem directed_standings : directedGate.standingsOk ∧ gate.standingsOk :=
  ⟨standings_of (by decide +kernel) (by decide +kernel) (by decide +kernel) (by decide +kernel) (by decide +kernel), waiting_standings⟩

theorem witness_BlockSetWritesBlock :
    gate.portReady ∧ gate.visitsOk ∧ directedGate.portReady ∧ directedGate.visitsOk
      ∧ reply (.blockSet 7 32 noFields) gate = some (.badValue, [])
      ∧ reply (.blockSet 7 31 { noFields with route := some 256 }) gate = some (.badValue, [])
      ∧ ((gate.yd.blocks[0]).inTransit = 1 ∧ reply (.blockSet 7 0 { noFields with kind := some .reefer }) gate = some (.wrongState, []))
      ∧ ((gate.yd.blocks[0]).opened = true
        ∧ (reply (.blockSet 7 0 { noFields with credit := some 5, route := some 255 }) gate).map (·.1) = some .ok)
      ∧ (reply (.blockSet 7 31 { noFields with credit := some 256 }) gate).map (·.1) = some .okClamped
      ∧ ((after (.blockSet 7 31 { noFields with credit := some 256 }) gate).yd.blocks[31]).credit = 255
      ∧ (reply (.blockSet 7 31 { noFields with opened := some true }) gate).map (·.1) = some .ok
      ∧ ((after (.blockSet 7 0 { noFields with opened := some false }) directedGate).visit? 1).map (·.moves.map (·.state))
          = some [.pending]
      ∧ (reply (.blockSet 7 0 { noFields with opened := some false }) directedGate).map (·.2.take 4)
          = some [.byte 0, .byte 1, .byte 5, .byte 1] :=
  ⟨ready_of rfl, gate_visits, ready_of rfl, directed_visits, by and_intros <;> decide +kernel⟩

/-- No block open for an export, and the visits at lane 1 and at desk 1 on the wait list. -/
def walkGate : State :=
  let s := withVisit 2 (fun v => { v with moves := [dropEntry 6 .pending none .closed], holds := [hold .noYard] })
    (withVisit 1 (fun v => { v with moves := [dropEntry 3 .pending none .closed], holds := [hold .noYard] }) gate)
  { s with yd := { YardDirector.reset with
      waitList := [{ visit := 1, kind := .stackExport }, { visit := 2, kind := .stackExport }] } }

theorem witness_blockSetWalks :
    walkGate.portReady ∧ walkGate.visitsOk ∧ walkGate.waitOk
      ∧ (let t := after (.blockSet 7 0 { noFields with opened := some true, credit := some 1 }) walkGate;
        t.yd.waitList = [{ visit := 2, kind := .stackExport }] ∧ (t.yd.blocks[0].credit, t.yd.blocks[0].inTransit) = (0, 1)
          ∧ [1, 2].map (fun n => (t.visit? n).map fun v => (v.moves.map fun m => (m.state, m.block), v.holds.map (·.reason)))
            = [some ([(.directed, some 0)], []), some ([(.pending, none)], [.noYard])])
      ∧ (let t := after (.blockSet 7 0 { noFields with opened := some false }) gate;
        (gate.visit? 4).map (fun v => (v.stage, v.ending)) = some (.released, none)
          ∧ (t.visit? 4).map (·.causes) = some [.blockClosedEnRoute] ∧ 4 ∈ t.vt.changed) :=
  ⟨ready_of rfl, by unfold State.visitsOk holdsOk; decide +kernel, by unfold State.waitOk; decide +kernel
    , by and_intros <;> decide +kernel⟩

theorem witness_BlockConfirmSettlesMove :
    gate.portReady ∧ gate.visitsOk
      ∧ reply (.blockConfirm 7 4 0) gate = some (.badValue, []) ∧ reply (.blockConfirm 7 4 5) gate = some (.badValue, [])
      ∧ reply (.blockConfirm 7 6 1) gate = some (.notFound, [])
      ∧ reply (.blockConfirm 7 1 1) gate = some (.wrongState, [])
      ∧ reply (.blockConfirm 7 4 4) gate = some (.notFound, [])
      ∧ ((gate.live? 4).map (fun v => (v.stage, v.ending)) = some (.released, none)
        ∧ (gate.live? 4).map (·.moves) = some [dropEntry 7 .directed (some 0) .closed]
        ∧ reply (.blockConfirm 7 4 1) gate = some (.ok, [.byte 0, .byte 0]))
      ∧ (let s := withVisit 4 (fun v => { v with moves := [dropEntry 7 .done (some 0) .closed] }) gate;
        reply (.blockConfirm 7 4 1) s = some (.wrongState, [])) :=
  ⟨ready_of rfl, gate_visits, by and_intros <;> decide +kernel⟩

/-- Lane 1 asks for the direction of its visit, whose drop is closed. -/
def asksDirection (s : State) : State :=
  withVisit 1 (fun v => { v with moves := [dropEntry 3 .pending none .closed] })
    (lane1 (fun x => { x with request := .direction }) s)

theorem asksDirection_visits : (asksDirection gate).visitsOk := by unfold State.visitsOk holdsOk; decide +kernel

/-- A state with every block as after reset, and so none open. -/
def noBlocks (s : State) : State := { s with yd := .reset }

theorem asksDirection_lanes : (asksDirection gate).lanesOk := by unfold State.lanesOk; decide +kernel

theorem witness_StopsComposeDirection :
    (gate.writable? 1).map (fun v => (v.number, v.holds)) = some (1, [])
      ∧ composeStops (twoBlocks 1 1) [{ dropEntry 3 .directed (some 1) .closed with kind := .importPick }
          , dropEntry 3 .directed (some 0) .closed, dropEntry 6 .directed (some 1) .closed]
        = [{ block := 0, label := [65], route := 7, moves := [(.exportDrop, some box)] }
          , { block := 1, label := [65], route := 7, moves := [(.exportDrop, some box), (.importPick, some box)] }]
      ∧ (let ms := [dropEntry 3 .directed (some 0) .closed]
        let done := fun s : State => (s.visit? 1).bind fun v => ((s.assignDone v s.yd.blocks ms .direction).visit? 1).map (·.direction);
        done gate = some (some (.stops [{ block := 0, label := [65], route := 7, moves := [(.exportDrop, some box)] }]))
          ∧ done (lane1 (fun x => { x with
              state := .directed
              sendOff := some { dest := .trouble, ticket := .ended, raiseOrdered := true, minute := none, ticketId := 0 } }) gate)
            = some none) := by
  and_intros <;> decide +kernel

theorem witness_VisitMovesEndAndBegin :
    (gate.portReady ∧ gate.visitsOk
      ∧ (gate.live? 6 = none ∧ reply (.visitClose 7 6) gate = some (.notFound, []))
      ∧ ((gate.live? 1).map (·.stage) = some .atLane ∧ reply (.visitClose 7 1) gate = some (.wrongState, []))
      ∧ ((gate.live? 4).map (fun v => (v.stage, v.ending)) = some (.released, none)
        ∧ (after (.visitClose 7 4) gate).cp.inProgress.map (·.phase) = some (.ending 4 .close)
        ∧ (after (.visitClose 7 4) gate).yd.blocks[0].inTransit = 0
        ∧ (after (.visitClose 7 4) gate).yd.blocks[0].credit = 5 ∧ (after (.visitClose 7 4) gate).vt.changed = [1, 5, 4]))
      ∧ (asksDirection gate).visitsOk ∧ (asksDirection gate).lanesOk ∧ (gate.lane 0).request = .none
      ∧ (let s := lane2 (fun x => { x with request := .direction }) gate;
        (s.lane 1).request = .direction ∧ (s.lane 1).visit = none ∧ ((after (.assignment 1) s).lane 1).request = .none)
      ∧ (let s := asksDirection gate;
        (s.lane 0).visit = some 1 ∧ (s.lane 0).request = .direction ∧ (s.lane 0).state = .checking
          ∧ (s.lane 0).link.online = true ∧ (s.lane 0).trouble = .none
          ∧ (s.writable? 1).map (fun v => (v.stage, v.lane, v.holds)) = some (.atLane, some 0, [])
          ∧ (∀ k, (s.lane k).visit = some 1 → k = 0)
          ∧ ((after (.assignment 0) s).lane 0).state = .directed
          ∧ ((after (.assignment 0) s).yd.blocks[0]).credit = 4)
      ∧ (let s := noBlocks (asksDirection gate);
        ((after (.assignment 0) s).lane 0).state = .held ∧ (after (.assignment 0) s).yd.waitList = [{ visit := 1, kind := .stackExport }]
          ∧ ((after (.assignment 0) s).visit? 1).map (·.holds.map (·.reason)) = some [.noYard]) :=
  ⟨⟨ready_of rfl, gate_visits, by and_intros <;> decide +kernel⟩, asksDirection_visits, asksDirection_lanes
    , by and_intros <;> decide +kernel⟩

theorem witness_assignmentHeld :
    (let s := noBlocks (lane1 (fun x => { x with state := .held, timers := x.timers.set 2 (.running 9) }) (asksDirection gate));
      (s.lane 0).keptEvents = [] ∧ (s.lane 0).keptGrant = false
        ∧ (after (.assignment 0) s).lane 0 = { s.lane 0 with request := .none })
      ∧ (let s := noBlocks (lane1 (fun x => { x with state := .held, trouble := .admitted, keptGrant := true })
          { asksDirection gate with td := { gate.td with admissions := [{ lane := 0, visit := 1 }] } });
        (s.lane 0).link.online = true ∧ ((after (.assignment 0) s).lane 0).state = .directed
          ∧ ((after (.assignment 0) s).lane 0).sendOff.map (·.dest) = some .trouble)
      ∧ (let s := lane1 (fun x => { x with state := .held, link := Link.reset false, timers := x.timers.set 2 (.running 9) })
          (asksDirection gate);
        (s.lane 0).link.online = false ∧ ((after (.assignment 0) s).lane 0).state = .held
          ∧ ((after (.assignment 0) s).lane 0).timer .hold = .running (s.lane 0).cfg.holdLimit
          ∧ ((after (.assignment 0) s).visit? 1).map (·.holds.map (·.reason)) = some [.linkDown]) := by
  and_intros <;> decide +kernel

theorem witness_assignmentElse :
    (let s := lane1 (fun x => { x with link := Link.reset false }) (asksDirection gate);
      (s.lane 0).link.online = false ∧ ((after (.assignment 0) s).lane 0).state = .held
        ∧ ((after (.assignment 0) s).visit? 1).map (·.holds.map (·.reason)) = some [.linkDown])
      ∧ (let s := lane1 (fun x => { x with state := .held, trouble := .blocked })
          { asksDirection gate with td := { gate.td with blocked := [0] } };
        (s.lane 0).keptEvents = [] ∧ ((after (.assignment 0) s).lane 0).state = .directed
          ∧ ((after (.assignment 0) s).lane 0).trouble = .none ∧ (after (.assignment 0) s).td.blocked = [])
      ∧ (let s := lane1 (fun x => { x with state := .held, trouble := .admitted, keptGrant := true })
          { asksDirection gate with td := { gate.td with admissions := [{ lane := 0, visit := 1 }] } };
        (0 : LaneId) ∉ s.td.blocked ∧ ((after (.assignment 0) s).lane 0).sendOff.map (·.dest) = some .yard
          ∧ ((after (.assignment 0) s).lane 0).trouble = .none ∧ (after (.assignment 0) s).td.admissions = [])
      ∧ (let s := withVisit 1 (fun v => { v with moves := [] }) (asksDirection gate);
        ((after (.assignment 0) s).lane 0).state = .held
          ∧ ((after (.assignment 0) s).visit? 1).map (·.holds.map (·.reason)) = some [.clerk]) := by
  and_intros <;> decide +kernel

/-! ### Witnesses: the trouble desk -/

theorem witness_DeskTakeAndReturn :
    gate.portReady ∧ gate.visitsOk
      ∧ reply (.deskTake 7 0) gate = some (.badValue, []) ∧ reply (.deskReturn 7 5) gate = some (.badValue, [])
      ∧ (gate.td.desks[0] = .serving 2 995 false ∧ (reply (.deskTake 7 1) gate).map (·.1) = some .wrongState
        ∧ (gate.writable? 2).map (·.holds) = some [hold .clerk] ∧ reply (.deskReturn 7 1) gate = some (.ok, [.absent, .byte 2])
        ∧ (after (.deskReturn 7 1) gate).td.queue = [3, 2])
      ∧ (gate.td.desks[3] = .free ∧ reply (.deskReturn 7 4) gate = some (.wrongState, [.absent])
        ∧ (gate.writable? 3).map (·.number) = some 3 ∧ (after (.deskTake 7 4) gate).td.desks[3] = .serving 3 1000 false)
      ∧ reply (.deskTake 7 4) { gate with td := { gate.td with queue := [] } } = some (.empty, [.absent])
      ∧ ((after (.deskReturn 7 1) (withVisit 2 (fun v => { v with holds := [] }) gate)).visit? 2).map (·.holds.map (·.reason))
        = some [.clerk] :=
  ⟨ready_of rfl, gate_visits, by and_intros <;> decide +kernel⟩

theorem witness_DeskRetryAssigns :
    gate.portReady ∧ gate.visitsOk
      ∧ reply (.deskRetry 7 0) gate = some (.badValue, []) ∧ reply (.deskRetry 7 5) gate = some (.badValue, [])
      ∧ reply (.deskRetry 7 4) gate = some (.wrongState, [.absent])
      ∧ (gate.td.desks[0] = .serving 2 995 false
        ∧ (gate.writable? 2).map (fun v => (v.stage, v.desk)) = some (.atDesk, some 0)
        ∧ (reply (.deskRetry 7 1) gate).map (·.1) = some .ok
        ∧ ((after (.deskRetry 7 1) gate).visit? 2).map (·.moves.map (·.block)) = some [some 0])
      ∧ (reply (.deskRetry 7 1) (noBlocks gate)).map (·.1) = some .noRoom
      ∧ (reply (.deskRetry 7 1) (noBlocks (withVisit 2 (fun v => { v with holds := sixHolds }) gate))).map (·.1) = some .noRoom
      ∧ (reply (.deskRetry 7 1) (withVisit 2 (fun v => { v with moves := [] }) gate)).map (·.1) = some .wrongState :=
  ⟨ready_of rfl, gate_visits, by and_intros <;> decide +kernel⟩

theorem witness_retryFrame :
    (let s := withVisit 2 (fun v => { v with
          direction := some (.stops [{ block := 0, label := [65], route := 7, moves := [(.exportDrop, some box)] }]) })
        (noBlocks gate);
      (s.visit? 2).bind (·.direction) ≠ none ∧ ((after (.deskRetry 7 1) s).visit? 2).map (·.direction) = some none
        ∧ (after (.deskRetry 7 1) s).vt.changed = [1, 5, 2] ∧ ((after (.deskRetry 7 1) s).lanes = s.lanes))
      ∧ ((after (.deskRetry 7 1) gate).visit? 2).map (·.causes) = some [.direction] := by
  and_intros <;> decide +kernel

/-- `gate` at minute 959, with the window from 990 the one asked for and none running. -/
def earlyGate : State := atMinute 959 .locked gate

theorem witness_DeskRebookMovesCharge :
    gate.portReady ∧ gate.portTurn ∧ gate.visitsOk ∧ gate.bookOk
      ∧ reply (.deskRebook 7 0 (refNo 6) 990) gate = some (.badValue, [])
      ∧ reply (.deskRebook 7 4 (refNo 6) 990) gate = some (.wrongState, [.absent])
      ∧ (reply (.deskRebook 7 1 (refNo 3) 990) gate).map (·.1) = some .notFound
      ∧ (gate.booking? (refNo 6) = some (booking 6 .arrived (some 2) 990)
        ∧ (reply (.deskRebook 7 1 (refNo 6) 1000) gate).map (·.1) = some .notFound)
      ∧ ((withdrawn.booking? (refNo 6)).map (·.flags.withdrawn) = some true
        ∧ (reply (.deskRebook 7 1 (refNo 6) 990) withdrawn).map (·.1) = some .wrongState)
      ∧ (let s := atMinute 1040 .lost gate;
        s.due (window 990 8 1 5 0) = true ∧ s.retirementHeld = false
          ∧ (reply (.deskRebook 7 1 (refNo 6) 990) s).map (·.1) = some .wrongState)
      ∧ (gate.windowOf 1020 = some (window 1020 1 1 0 0) ∧ (reply (.deskRebook 7 1 (refNo 6) 1020) gate).map (·.1) = some .ok
        ∧ (after (.deskRebook 7 1 (refNo 6) 1020) gate).be.ring.map (·.bookedG) = [4, 1])
      ∧ (let s : State := { gate with be := { gate.be with ring := [window 990 8 1 5 0, window 1020 0 1 0 0] } };
        (reply (.deskRebook 7 1 (refNo 6) 1020) s).map (·.1) = some .noRoom)
      ∧ (earlyGate.runningWindow = none ∧ (reply (.deskRebook 7 1 (refNo 6) 990) earlyGate).map (·.1) = some .ok
        ∧ ((after (.deskRebook 7 1 (refNo 6) 990) earlyGate).visit? 2).map (·.holds.map (·.reason)) = some [.clerk, .noSlot]) :=
  ⟨ready_of rfl, gate_turn, gate_visits, gate_book, by and_intros <;> decide +kernel⟩

/-- The standing, window and PULLED flag of booking 6 once DESK_REBOOK has moved it to the window from 1020. -/
def rebooked (start : Nat) (s : State) : Option Standing × Option (Nat × Bool) :=
  let t := after (.deskRebook 7 1 (refNo 6) start) s
  (((t.visit? 2).bind (·.claimed[0]?)).map (·.standing), (t.booking? (refNo 6)).map fun b => (b.tag, b.flags.pulled))

theorem witness_rebookStandings :
    rebooked 990 gate = (some .onTime, some (990, false))
      ∧ ((atMinute 1020 .locked gate).due (window 990 8 1 5 0) = false
        ∧ rebooked 990 (atMinute 1020 .locked gate) = (some .lateGrace, some (990, false)))
      ∧ rebooked 1020 (atMinute 1000 .lost gate) = (some .unjudged, some (1020, false))
      ∧ (let s : State := { gate with cfg := { gate.cfg with e := 19 } };
        s.runningWindow.map (·.start) = some 990 ∧ rebooked 1020 s = (some .earlyPulled, some (990, true)))
      ∧ (let s : State := { gate with cfg := { gate.cfg with e := 20 } };
        rebooked 1020 s = (some .onTime, some (1020, false)))
      ∧ rebooked 990 earlyGate = (some .earlyStaged, some (990, false)) := by
  and_intros <;> decide +kernel

/-- The visit at desk 1 directed to block 0, with these holds. -/
def readyDesk (holds : List Hold) : State :=
  withVisit 2 (fun v => { v with
    moves := [dropEntry 6 .directed (some 0) .closed], holds
    direction := some (.stops [{ block := 0, label := [65], route := 7, moves := [(.exportDrop, some box)] }]) }) gate

theorem readyDesk_visits : (readyDesk []).visitsOk := by unfold State.visitsOk holdsOk; decide +kernel

/-- Lane 2 HELD with a new visit and BLOCKED, the trouble area to grant it the next place. -/
def blockedLane (s : State) : State :=
  lane2 (fun x => { x with state := .held, visit := some 6, trouble := .blocked, link := online })
    { s with
      vt := { s.vt with visits := s.vt.visits ++ [{ visit 6 .atLane 9 with claimed := [], lane := some 1, holds := [hold .clerk] }] }
      td := { s.td with blocked := [1] } }

theorem readyDesk_standings : (readyDesk []).standingsOk ∧ (blockedLane (readyDesk [])).standingsOk :=
  ⟨standings_of (by decide +kernel) (by decide +kernel) (by decide +kernel) (by decide +kernel) (by decide +kernel)
    , standings_of (by decide +kernel) (by decide +kernel) (by decide +kernel) (by decide +kernel) (by decide +kernel)⟩

theorem blockedLane_visits : (blockedLane (readyDesk [])).visitsOk := by unfold State.visitsOk holdsOk; decide +kernel

theorem witness_DeskSendAndTurnBack :
    gate.portReady ∧ gate.visitsOk ∧ gate.standingsOk ∧ (readyDesk []).portReady ∧ (readyDesk []).visitsOk
      ∧ reply (.deskSend 7 0) gate = some (.badValue, []) ∧ reply (.deskTurnBack 7 5) gate = some (.badValue, [])
      ∧ reply (.deskSend 7 4) gate = some (.wrongState, [.absent])
      ∧ reply (.deskTurnBack 7 4) gate = some (.wrongState, [.absent])
      ∧ ((gate.writable? 2).map (fun v => (v.stage, v.complete)) = some (.atDesk, false)
        ∧ (reply (.deskSend 7 1) gate).map (·.2.getLast?) = some (some (.byte 0)))
      ∧ (reply (.deskSend 7 1) (readyDesk [hold .clerk])).map (·.2.getLast?) = some (some (.byte 1))
      ∧ (reply (.deskSend 7 1) (withVisit 2 (fun v => { v with claimed := [] }) (readyDesk []))).map (·.2.getLast?)
          = some (some (.byte 2))
      ∧ ((readyDesk []).td.desks[0] = .serving 2 995 false
        ∧ ((readyDesk []).writable? 2).map (fun v => (v.stage, v.complete, v.holds)) = some (.atDesk, true, [])
        ∧ (after (.deskSend 7 1) (readyDesk [])).cp.inProgress.map (·.phase) = some (.admitting 2)
        ∧ (readyDesk []).td.blocked = [])
      ∧ (let s := blockedLane (readyDesk []);
        s.td.blocked = [1] ∧ (s.lane 1).visit = some 6 ∧ s.placeCount = 2 ∧ (s.lane 1).state = .held ∧ (s.lane 1).request = .none
          ∧ (s.lane 1).link.online = true ∧ (s.visit? 6).map (fun v => (v.stage, v.ending)) = some (.atLane, none)
          ∧ ((after (.deskSend 7 1) s).lane 1).state = .directed)
      ∧ ((after (.deskTurnBack 7 1) (readyDesk [])).cp.inProgress.map (·.phase) = some (.ending 2 .turnBack)
        ∧ ((after (.deskTurnBack 7 1) (readyDesk [])).yd.blocks[0]).credit = 6
        ∧ ((after (.deskTurnBack 7 1) (readyDesk [])).visit? 2).map (·.direction) = some none) :=
  ⟨ready_of rfl, gate_visits, waiting_standings, ready_of rfl, readyDesk_visits, by and_intros <;> decide +kernel⟩

/-! ### Witnesses: the settings -/

/-- `stagedGate` with the staged booking EARLY-STAGED and not yet eligible. -/
def earlyStaged : State :=
  withVisit 3 (fun v => { v with
    claimed := [{ ref := refNo 8, standing := .earlyStaged, holdover := false }]
    staging := some { minute := 990, eligible := false } }) stagedGate

theorem earlyStaged_visits : earlyStaged.visitsOk := by unfold State.visitsOk holdsOk; decide +kernel

theorem witness_SettingsWriteSets :
    gate.portReady ∧ gate.visitsOk ∧ gate.clockOk ∧ ((stopped gate).portReady ∧ (stopped gate).clockOk)
      ∧ (dueGate.portReady ∧ dueGate.clockOk) ∧ (earlyStaged.portReady ∧ earlyStaged.visitsOk ∧ earlyStaged.clockOk)
      ∧ reply (.settingsWrite 7 { noSettings with stopInput := some .rise }) gate = some (.badValue, [])
      ∧ ((stopped gate).stop.inForce = true
        ∧ reply (.settingsWrite 7 { noSettings with stopInput := some .off }) (stopped gate) = some (.wrongState, [])
        ∧ reply (.settingsWrite 7 { noSettings with stopInput := some .both }) (stopped gate) = some (.ok, []))
      ∧ (reply (.settingsWrite 7 { noSettings with p := some 15, hx := some 60 }) gate = some (.ok, [])
        ∧ reply (.settingsWrite 7 { noSettings with p := some 16 }) gate = some (.okClamped, [])
        ∧ (after (.settingsWrite 7 { noSettings with p := some 16 }) gate).tb.p = 15
        ∧ (after (.settingsWrite 7 { noSettings with tInspect := some 40 }) gate).cfg.tHold = 40)
      ∧ (reply (.settingsWrite 7 { noSettings with g := some 21 }) dueGate = some (.ok, [])
        ∧ (after (.settingsWrite 7 { noSettings with g := some 21 }) dueGate).retirementHeld = false)
      ∧ (let s := atMinute 1039 .locked gate;
        (after (.settingsWrite 7 { noSettings with g := some 19 }) s).retirementHeld = true
          ∧ (after (.settingsWrite 7 { noSettings with g := some 19 }) s).cp.inProgress.map (·.phase)
            = some (.retiring .ok (some 990)))
      ∧ (dueGate.retirementHeld = true ∧ reply (.settingsWrite 7 { noSettings with g := some 19 }) dueGate = some (.ok, [])
        ∧ reply (.settingsWrite 7 { noSettings with e := some 31 }) dueGate = some (.ok, []))
      ∧ (earlyStaged.vt.stagedIn = [3] ∧ (earlyStaged.writable? 3).map (·.staging.isSome) = some true
        ∧ ((after (.settingsWrite 7 { noSettings with e := some 20 }) earlyStaged).visit? 3).bind (·.staging)
          = some { minute := 1000, eligible := true })
      ∧ (let s := withVisit 1 (fun v => { v with
            moves := [{ dropEntry 3 .pending none .closed with
              damage := some { noDamage with severity := noDamage.severity.set 0 3, index := 18 } }] }) gate;
        ((after (.settingsWrite 7 { noSettings with weights := (Vector.replicate 7 none).set 0 (some 15) }) s).visit? 1).map
            (fun v => v.moves.map fun m => m.damage.map (·.index)) = some [some 135]) :=
  ⟨ready_of rfl, gate_visits, clock_of (by decide +kernel), ⟨ready_of rfl, clock_of (by decide +kernel)⟩
    , ⟨ready_of rfl, clock_of (by decide +kernel)⟩, ⟨ready_of rfl, earlyStaged_visits, clock_of (by decide +kernel)⟩
    , by and_intros <;> decide +kernel⟩

theorem witness_minuteActs :
    (let s := tickDue (withVisit 3 (fun v => { v with staging := some { minute := 1001, eligible := false } })
        (lane2 (fun x => { x with state := .idle, parkRef := some 986 }) earlyStaged));
      (s.lane 1).actsAt 1001 = true ∧ ((after .internalMinuteTick s).lane 1).state = .parked
        ∧ ((after .internalMinuteTick s).visit? 3).map (·.staging) = some (some { minute := 1001, eligible := true })
        ∧ (after .internalMinuteTick s).vt.changed = [1, 5, 3])
      ∧ (let s := lane2 (fun x => { x with state := .approach, approachRef := some 988 }) busyPort;
        (s.lane 1).actsAt 1003 = true ∧ ((after .catchUpStep s).lane 1).state = .idle
          ∧ ((after .catchUpStep s).lane 1).parkRef = some 1003)
      ∧ (let s := lane2 (fun x => { x with state := .approach, approachRef := some 988, closing := true }) busyPort;
        ((after .catchUpStep s).lane 1).state = .closed)
      ∧ (let s := lane2 (fun x => { x with state := .approach, approachRef := some 989 }) busyPort;
        (s.lane 1).actsAt 1003 = false ∧ ((after .catchUpStep s).lane 1).state = .approach) := by
  and_intros <;> decide +kernel

/-! ### Witnesses: inputs and timers of a lane -/

/-- An input of lane 1 at a level. -/
def sensed (i : Input) (level : Bool) (s : State) : State :=
  lane1 (fun x => { x with filters := x.filters.set (inputIdx i) { level, run := 0 } }) s

/-- Lane 1 in a state, without a visit. -/
def bare (st : LaneState) (s : State) : State := lane1 (fun x => { x with state := st, visit := none }) s

theorem witness_InputChangesAreTaken :
    (gate.reportsChange 0 .approach false = false ∧ gate.reportsChange 0 .approach true = true
        ∧ gate.reportsChange 0 .boomUp true = true)
      ∧ (let s := stoppedIn .checking gate;
        (s.lane 0).state = .fault .stopped ∧ s.reportsChange 0 .boom true = true
          ∧ ((after (.boomOccupy 0) s).lane 0).boomCount = 1)
      ∧ (let s := lane1 (fun x => { x with cfg := { x.cfg with mode := x.cfg.mode.set 2 .level } }) gate;
        (s.lane 0).cfg.mode[inputIdx .boom] = .level ∧ s.reportsChange 0 .boom true = false
          ∧ ((after (.levelChange 0 .boom true) s).lane 0).reads .boom = true
          ∧ ((after (.levelChange 0 .boom true) s).lane 0).boomCount = 0)
      ∧ (let s := lane1 (fun x => { x with axleOpen := true, axleCount := 14 }) (bare .approach gate);
        (s.lane 0).cfg.depth = 3 ∧ (s.lane 0).cfg.mode[inputIdx .axle] = .rise
          ∧ ((after (.pulse 0) s).lane 0).axleCount = 15 ∧ ((after (.pulse 0) (after (.pulse 0) s)).lane 0).axleCount = 15) := by
  decide +kernel

theorem witness_ApproachAndStopDriveLane :
    (let s := bare .idle gate;
      (s.lane 0).state = .idle ∧ s.reportsChange 0 .approach true = true
        ∧ ((after (.approachOccupy 0) s).lane 0).state = .approach ∧ ((after (.approachOccupy 0) s).lane 0).axleOpen = true)
      ∧ (let s := lane1 (fun x => { x with wakeArmed := some true }) (bare .parked gate);
        ((after (.approachOccupy 0) s).lane 0).state = .approach)
      ∧ (let s := sensed .approach true (bare .parked gate);
        s.reportsChange 0 .approach false = true ∧ ((after (.approachVacate 0) s).lane 0).wakeArmed = some true)
      ∧ ((gate.lane 0).state = .checking ∧ ((after (.approachOccupy 0) gate).lane 0).memApproach = true)
      ∧ (let s := bare .releasing gate;
        s.reportsChange 0 .stop true = true ∧ ((after (.stopOccupy 0) s).lane 0).memStop = true)
      ∧ (let s := lane1 (fun x => { x with closing := true }) (bare .approach gate);
        ((after (.stopOccupy 0) s).lane 0).state = .closed)
      ∧ (let s := bare .approach gate;
        s.vt.visits.length = 5 ∧ s.vt.slotWait = [] ∧ ((after (.stopOccupy 0) s).lane 0).state = .identify
          ∧ ((after (.stopOccupy 0) s).lane 0).visit = some 6
          ∧ ((after (.stopOccupy 0) s).lane 0).timer .pedestal = .running 180)
      ∧ (let s := lane1 (fun x => { x with pendingPlate := some (plateNo 1) }) (bare .approach gate);
        ((after (.stopOccupy 0) s).lane 0).request = .search (.plate (plateNo 1))) := by
  and_intros <;> decide +kernel

theorem witness_slotWait :
    (let s : State := { bare .approach gate with vt := { gate.vt with slotWait := [4] } };
      s.vt.slotWait ≠ [] ∧ (0 : LaneId) ∉ s.vt.slotWait ∧ (after (.stopOccupy 0) s).vt.slotWait = [4, 0]
        ∧ ((after (.stopOccupy 0) s).lane 0).visit = none)
      ∧ (let s : State := { sensed .stop true (bare .identify gate) with vt := { gate.vt with slotWait := [4, 0] } };
        s.reportsChange 0 .stop false = true ∧ (s.lane 0).visit.isNone = true ∧ (0 : LaneId) ∈ s.vt.slotWait
          ∧ ((after (.stopVacate 0) s).lane 0).state = .approach ∧ (after (.stopVacate 0) s).vt.slotWait = [4])
      ∧ ((after (.stopVacate 0) (sensed .stop true (bare .identify gate))).lane 0).state = .identify
      ∧ (let s := sensed .stop true gate;
        (s.lane 0).state = .checking ∧ ((after (.stopVacate 0) s).lane 0).state = .checking) := by
  decide +kernel

/-- Lane 1 releasing the visit it has just sent off, with one truck counted. -/
def leaving (exit boom : Bool) : State :=
  sensed .exit exit (sensed .boom boom (lane1 (fun x => { x with
    boomCount := 1, lastReleased := some 1, output := .asserted, exitTaken := false }) (bare .releasing gate)))

/-- The visit at lane 1 checked and directed, on a send-off whose raise is in progress. -/
def raising (d : Dest) (holds : List Hold) : State :=
  withVisit 1 (fun v => { v with moves := [dropEntry 3 .directed (some 0) .closed], holds })
    (lane1 (fun x => { x with
      state := .directed, output := .asserted, timers := x.timers.set 0 (.running 6)
      sendOff := some { dest := d, ticket := .ended, raiseOrdered := true, minute := none, ticketId := 0 } }) gate)

theorem raising_visits (d : Dest) : (raising d []).visitsOk := by
  unfold State.visitsOk holdsOk
  cases d <;> decide +kernel

theorem witness_BoomAndArmDriveLane :
    (let s := leaving false false;
      (s.lane 0).state = .releasing ∧ s.reportsChange 0 .boom true = true
        ∧ ((s.lane 0).took s.tb.laneSec .boom true).boomCount = 2
        ∧ ((after (.boomOccupy 0) s).lane 0).state = .fault .tailgate)
      ∧ ((gate.lane 0).state = .checking ∧ ((after (.boomOccupy 0) gate).lane 0).state = .checking)
      ∧ (let s := lane1 (fun x => { x with exitTaken := true }) (leaving false true);
        s.reportsChange 0 .boom false = true ∧ (s.lane 0).reads .exit = false ∧ (s.lane 0).closing = false
          ∧ (s.lane 0).memStop = false ∧ ((after (.boomVacate 0) s).lane 0).state = .idle)
      ∧ ((leaving false true).reportsChange 0 .boom false = true
        ∧ ((after (.boomVacate 0) (leaving false true)).lane 0).state = .releasing)
      ∧ gate.reportsChange 0 .exit true = true
      ∧ ((leaving true true).reportsChange 0 .exit false = true ∧ ((leaving true true).lane 0).reads .boom = true
        ∧ ((after (.exitVacate 0) (leaving true true)).lane 0).exitTaken = true)
      ∧ (((leaving true false).lane 0).reads .boom = false
        ∧ ((after (.exitVacate 0) (leaving true false)).lane 0).state = .idle)
      ∧ (let s := lane1 (fun x => { x with memStop := true }) (leaving true false);
        ((after (.exitVacate 0) s).lane 0).state = .identify)
      ∧ (let s := lane1 (fun x => { x with closing := true }) (leaving true false);
        ((after (.exitVacate 0) s).lane 0).state = .closed)
      ∧ (let s := sensed .boomUp true (raising .yard []);
        s.reportsChange 0 .boomUp false = true ∧ (s.lane 0).output = .asserted
          ∧ ((after (.down 0) s).lane 0).state = .fault .boomJam)
      ∧ (let s := sensed .boomUp true gate;
        (s.lane 0).output = .withdrawn ∧ ((after (.down 0) s).lane 0).state = .checking) := by
  and_intros <;> decide +kernel

/-- The state one step leads to, from a state with a command waiting. -/
def stepped (c : Instr) (s : State) : State :=
  match step { s with pending := [c] } with
  | .next t => t
  | .fault _ => s
  | .refused _ => s

theorem witness_BoomLowersOnlyWhenClear :
    (State.reset.lane 0).output = .withdrawn
      ∧ (let s := raising .yard [];
        (s.lane 0).output = .asserted ∧ ((stepped (.press 0 .help) s).lane 0).output = .withdrawn
          ∧ ((stepped (.press 0 .help) s).lane 0).reads .boom = false)
      ∧ (let s := sensed .boom true (raising .yard []);
        ((stepped (.press 0 .help) s).lane 0).output = .withdrawPending
          ∧ ((stepped (.press 0 .help) s).lane 0).reads .boom = true
          ∧ ((stepped (.boomVacate 0) (stepped (.press 0 .help) s)).lane 0).output = .withdrawn) := by
  and_intros <;> decide +kernel

theorem witness_upCompletesRaise :
    (gate.reportsChange 0 .boomUp true = true ∧ (gate.lane 0).sendOff = none)
      ∧ (let s := raising .yard [];
        s.reportsChange 0 .boomUp true = true ∧ (s.lane 0).visit = some 1 ∧ (s.lane 0).sendOff.map (·.dest) = some .yard
          ∧ (s.writable? 1).map (fun v => (v.stage, v.lane)) = some (.atLane, some 0)
          ∧ (∀ j, (s.lane j).visit = some 1 → j = 0)
          ∧ ((after (.up 0) s).lane 0).state = .releasing ∧ ((after (.up 0) s).lane 0).owed = [.admission 1]
          ∧ ((after (.up 0) s).visit? 1).map (·.stage) = some .released)
      ∧ ((after (.up 0) (raising .yard [hold .driver])).lane 0).state = .held
      ∧ ((after (.up 0) (raising .staging [])).visit? 1).map (·.stage) = some .staged
      ∧ ((after (.up 0) (raising .trouble [])).visit? 1).map (·.stage) = some .queued
      ∧ (let s := { raising .trouble [] with td := { gate.td with admissions := [{ lane := 0, visit := 1 }] } };
        ((after (.up 0) s).visit? 1).map (fun v => (v.stage, v.holds.map (·.reason))) = some (.queued, [.clerk])
          ∧ (after (.up 0) s).td.queue = [3, 1] ∧ (after (.up 0) s).td.admissions = [])
      ∧ (raising .back []).td.blocked = [] ∧ ((after (.up 0) (raising .back [])).lane 0).visit = some 1
      ∧ (let s := lane1 (fun x => { x with visit := none }) (raising .back []);
        (s.lane 0).visit = none ∧ ((after (.up 0) s).lane 0).state = .releasing ∧ ((after (.up 0) s).lane 0).owed = [])
      ∧ ((after (.up 0) (raising .back [])).lane 0).owed = [.ending 1 .turnBack] := by
  and_intros <;> decide +kernel

/-- A timer of lane 1 whose expiry is reached. -/
def expired (k : Fin 6) (s : State) : State := lane1 (fun x => { x with timers := x.timers.set k (.running 0) }) s

theorem witness_TimerExpiriesAct :
    ((gate.lane 0).timers[(0 : Fin 6)] ≠ .running 0 ∧ ((expired 0 gate).lane 0).timers[(0 : Fin 6)] = .running 0)
      ∧ (let s := expired 0 (raising .yard []);
        (s.lane 0).state = .directed ∧ ((after (.raiseLimitExpiry 0) s).lane 0).state = .fault .boomJam)
      ∧ ((after (.raiseLimitExpiry 0) (expired 0 gate)).lane 0).state = .checking
      ∧ (let s := expired 3 (bare .releasing gate);
        (s.lane 0).state = .releasing ∧ ((after (.clearLimitExpiry 0) s).lane 0).state = .fault .stalled)
      ∧ ((after (.clearLimitExpiry 0) (expired 3 gate)).lane 0).state = .checking
      ∧ ((after (.pedestalLimitExpiry 0) (expired 1 gate)).lane 0).state = .checking
      ∧ (let s := expired 1 (seeking gate);
        (s.lane 0).request ≠ .none ∧ ((after (.pedestalLimitExpiry 0) s).lane 0).keptExpiry = true)
      ∧ (let s := expired 1 (lane1 (fun x => { x with nothingEntered := true }) (asking .none gate));
        (s.lane 0).visit = some 1 ∧ (s.writable? 1).map (fun v => (v.stage, v.lane, v.holds)) = some (.atLane, some 0, [])
          ∧ ((after (.pedestalLimitExpiry 0) s).lane 0).state = .held
          ∧ ((after (.pedestalLimitExpiry 0) s).visit? 1).map (·.holds.map (·.reason)) = some [.noBooking, .timeout])
      ∧ ((after (.holdLimitExpiry 0) (expired 2 gate)).lane 0).state = .checking
      ∧ (let s := expired 2 (lane1 (fun x => { x with request := .direction }) (heldLane gate));
        (s.lane 0).state = .held ∧ ((after (.holdLimitExpiry 0) s).lane 0).keptEvents = [.offer])
      ∧ (let s := expired 2 (lane1 (fun x => { x with trouble := .blocked }) (heldLane gate));
        (s.lane 0).trouble ≠ .none ∧ ((after (.holdLimitExpiry 0) s).lane 0).state = .held)
      ∧ (let s := expired 2 (heldLane gate);
        (s.lane 0).visit = some 1 ∧ (s.lane 0).trouble = .none ∧ s.placeCount = 2 ∧ (s.lane 0).link.online = true
          ∧ (s.writable? 1).isSome = true ∧ ((after (.holdLimitExpiry 0) s).lane 0).state = .directed
          ∧ ((after (.holdLimitExpiry 0) s).lane 0).trouble = .admitted)
      ∧ (let s := expired 2 { heldLane gate with td := { gate.td with queue := List.range 15 } };
        s.placeCount = 16 ∧ (after (.holdLimitExpiry 0) s).td.blocked = [0])
      ∧ (let s := expired 2 { heldLane gate with td := { gate.td with queue := List.range 14 } };
        s.placeCount = 15 ∧ (after (.holdLimitExpiry 0) s).cp.flags.troubleFull = true) := by
  and_intros <;> decide +kernel

theorem witness_pedestalStands :
    (expired 1 (lane1 (fun x => { x with nothingEntered := true }) (asking .none gate))).standingsOk
      ∧ (readyDesk []).yd.waitList = [] :=
  ⟨standings_of (by decide +kernel) (by decide +kernel) (by decide +kernel) (by decide +kernel) (by decide +kernel), rfl⟩

theorem witness_windowExpiries :
    (let s := expired 4 (inspecting .closed []);
      ((after (.sealWindowExpiry 0) s).lane 0).timer .sealWindow = .stopped)
      ∧ (let s := expired 4 gate;
        (s.writable? 1).map (fun v => v.moves.map fun m => m.sealRec.map (·.window)) = some [some .opened]
          ∧ ((after (.sealWindowExpiry 0) s).visit? 1).map (fun v => v.moves.map fun m => m.sealRec.map (·.window))
            = some [some .closed]
          ∧ (∀ k, (s.lane k).visit = some 1 → k = 0)
          ∧ ((after (.sealWindowExpiry 0) s).visit? 1).map (·.holds.map (·.reason)) = some [.badSeal])
      ∧ (let s := expired 5 (inspecting .opened []);
        ((after (.damageWindowExpiry 0) s).lane 0).finalTold = false)
      ∧ (let s := stoppedIn .checking (expired 5 (inspecting .closed []));
        (s.lane 0).state = .fault .stopped ∧ ((after (.damageWindowExpiry 0) s).lane 0).keptAnswers = [.checksFinal])
      ∧ (let s := lane1 (fun x => { x with state := .held }) (expired 5 (inspecting .closed []));
        ((after (.damageWindowExpiry 0) s).lane 0).finalTold = true)
      ∧ ((after (.damageWindowExpiry 0) (expired 5 (inspecting .closed []))).lane 0).request = .direction
      ∧ ((after (.damageWindowExpiry 0) (expired 5 (inspecting .closed [hold .driver]))).lane 0).state = .held := by
  and_intros <;> decide +kernel

/-! ### Witnesses: the pedestal links -/

/-- The link of lane 1 changed. -/
def link1 (f : Link → Link) (s : State) : State := lane1 (fun x => { x with link := f x.link }) s

/-- A card of three digits. -/
def cardNo : Text := [49, 50, 51]

theorem witness_MessagesReachLane :
    ((0 : LaneId).val < gate.strap ∧ (gate.lane 0).link.rx ≠ .breakSeen)
      ∧ (let s := link1 (fun k => { k with rx := .breakSeen }) gate;
        ((after (.card 0 cardNo) s).lane 0).link.flags = noLinkFlags)
      ∧ (cardForm [65] = false ∧ ((after (.card 0 [65]) gate).lane 0).link.flags.badMsg = true)
      ∧ (let s := link1 (fun k => { k with rxBuf := some .hello }) gate;
        ((after (.card 0 cardNo) s).lane 0).link.flags.overrun = true)
      ∧ ((after (.card 0 cardNo) (stoppedIn .checking gate)).lane 0).link.rxBuf = some (.card cardNo)
      ∧ (let s := bare .approach gate;
        (s.lane 0).state = .approach ∧ ((after (.keyedRef 0 (refNo 1)) s).lane 0).pendingEntry = none)
      ∧ (let s := bare .identify gate;
        cardForm cardNo = true ∧ (s.lane 0).visit = none ∧ ((after (.card 0 cardNo) s).lane 0).pendingEntry = some (.card cardNo)
          ∧ ((after (.keyedRef 0 (refNo 1)) s).lane 0).pendingEntry = some (.ref (refNo 1)))
      ∧ (let s := asking .none gate;
        (s.lane 0).state = .identify ∧ (s.lane 0).visit = some 1 ∧ s.claimedRefs 1 = []
          ∧ ((after (.card 0 cardNo) s).lane 0).request = .search (.card cardNo)
          ∧ ((after (.keyedRef 0 (refNo 1)) s).lane 0).request = .claim [refNo 1])
      ∧ ((seeking gate).claimedRefs 1 = [] ∧ ((after (.card 0 cardNo) (seeking gate)).lane 0).pendingEntry = some (.card cardNo))
      ∧ (gate.claimedRefs 1 = [refNo 3] ∧ ((after (.card 0 cardNo) gate).lane 0).request = .none)
      ∧ (textForm isAlnum 1 11 box = true ∧ containerOk box = true
        ∧ ((after (.keyedContainer 0 box (some 2)) gate).lane 0).link.txQueue = [.prompt { code := .reenterContainer, minute := none }])
      ∧ (let s := lane1 (fun x => { x with state := .fault .stopped, link := Link.reset false }) gate;
        (s.lane 0).link.cts = false ∧ ((after (.kioskHello 0) s).lane 0).link.online = true) := by
  and_intros <;> decide +kernel

theorem witness_PressAndSealReadAct :
    ((0 : LaneId).val < gate.strap ∧ (gate.lane 0).link.rx ≠ .breakSeen ∧ (gate.lane 0).link.rxBuf = none
        ∧ (gate.lane 0).state ≠ .fault .stopped)
      ∧ (let s := lane1 (fun x => { x with pendingEntry := some (.card cardNo) }) (bare .identify gate);
        ((after (.press 0 .cancel) s).lane 0).pendingEntry = none)
      ∧ ((gate.lane 0).visit ≠ none ∧ (gate.lane 0).link.online = true ∧ (gate.lane 0).link.cts = false
        ∧ ((after (.press 0 .confirm) gate).lane 0).link.txQueue.length = 1)
      ∧ (let s := asking .none gate;
        (s.lane 0).request = .none ∧ (s.lane 0).armUp = false ∧ ((after (.press 0 .cancel) s).lane 0).state = .directed)
      ∧ (let s := sensed .boomUp true (asking .none gate);
        (s.lane 0).armUp = true ∧ ((after (.press 0 .cancel) s).lane 0).state = .releasing)
      ∧ (((seeking gate).lane 0).request ≠ .none ∧ ((after (.press 0 .cancel) (seeking gate)).lane 0).state = .identify)
      ∧ ((gate.writable? 1).map (fun v => (v.stage, v.lane)) = some (.atLane, some 0)
        ∧ ((after (.press 0 .help) gate).visit? 1).map (·.holds.map (·.reason)) = some [.clerk])
      ∧ ((after (.press 0 .help) (bare .releasing gate)).lane 0).state = .releasing
      ∧ (((after (.press 0 .help) (seeking gate)).lane 0).state = .held
        ∧ ((after (.press 0 .help) (seeking gate)).lane 0).keptEvents = [.offer])
      ∧ (((heldLane gate).lane 0).trouble = .none ∧ (heldLane gate).placeCount = 2
        ∧ ((after (.press 0 .help) (heldLane gate)).lane 0).state = .directed)
      ∧ (let s := { heldLane gate with td := { gate.td with queue := List.range 15 } };
        s.placeCount = 16 ∧ ((after (.press 0 .help) s).lane 0).trouble = .blocked)
      ∧ (let s := withVisit 1 (fun v => { v with holds := sixHolds.take 5, moves := [dropEntry 3 .pending none .notOpened] })
          (heldLane gate);
        (s.lane 0).request = .none ∧ ((s.writable? 1).map fun v => (v.closeDrops .notOpened).anyWrong) = some true
          ∧ ((after (.press 0 .help) s).visit? 1).map (·.holds.map (·.reason))
            = some ((sixHolds.take 5).map (·.reason) ++ [.badSeal]))
      ∧ (sealForm (sealNo 1) = true
        ∧ ((after (.sealRead 0 (sealNo 1) none) gate).visit? 1).map (fun v => v.moves.map fun m => m.sealRec.bind (·.verdict))
          = some [some .matched])
      ∧ (let s := after (.sealRead 0 (sealNo 1) none) gate;
        (s.visit? 1).map (fun v => (v.takeRead (sealNo 1) .pedestal none).2) = some .again)
      ∧ (let s := lane1 (fun x => { x with lastReleased := some 4 }) (bare .releasing gate);
        (s.writable? 4).isSome = true ∧ ((after (.sealRead 0 (sealNo 2) none) s).visit? 4).map (·.causes) = some [.sealAfterRelease]) := by
  and_intros <;> decide +kernel

theorem witness_helpOnYard :
    (let t := after (.press 0 .help) (raising .yard [hold .clerk]);
      (t.lane 0).state = .directed ∧ (t.lane 0).sendOff.map (·.dest) = some .trouble ∧ (t.lane 0).trouble = .admitted
        ∧ (t.lane 0).output = .withdrawn ∧ (t.lane 0).timer .raise = .stopped)
      ∧ (let t := after (.press 0 .help) (raising .yard sixHolds);
        (t.lane 0).sendOff.map (·.dest) = some .trouble ∧ (t.visit? 1).map (·.holds) = some sixHolds) := by
  and_intros <;> decide +kernel

/-- A link that transmits a message. -/
def transmitting (m : OutMsg) (s : State) : State := link1 (fun k => { k with tx := some { msg := m, sent := 0 } }) s

/-- The TICKET of the send-off under way. -/
def ticket : OutMsg := .ticket 0 1 .trouble 1000

theorem witness_LinkEventsAct :
    ((after (.messageFault 0 .parityAndFrame) gate).lane 0).link.flags = { noLinkFlags with parity := true, frame := true }
      ∧ (let s := link1 (fun k => { k with rx := .inMessage, assembly := [2] }) gate;
        (s.lane 0).link.rx = .inMessage ∧ ((after (.gapLimit 0) s).lane 0).link.flags.badMsg = true)
      ∧ (let s := link1 (fun k => { k with rx := .breakSeen }) gate;
        ((after (.breakEnd 0) s).lane 0).link.rx = .hunt)
      ∧ (let s := link1 (fun k => { k with txQueue := [.resetKiosk] }) gate;
        (s.lane 0).link.tx = none ∧ ((after (.ctsAssert 0) s).lane 0).link.tx = some { msg := .resetKiosk, sent := 0 })
      ∧ (((after (.lineBreak 0) gate).lane 0).link.online = false ∧ (after (.lineBreak 0) gate).cp.flags.linkOffline = true)
      ∧ (((after (.lineBreak 1) gate).lane 1).link.flags.brk = true ∧ (after (.lineBreak 1) gate).cp.flags.linkOffline = false)
      ∧ (let s := transmitting ticket (yardLane gate);
        (s.lane 0).state = .directed ∧ (s.lane 0).armUp = false
          ∧ ((after (.lineBreak 0) s).lane 0).output = .asserted ∧ ((after (.messageSent 0) s).lane 0).output = .asserted)
      ∧ ((gate.lane 0).link.tx = none ∧ ((after (.messageSent 0) gate).lane 0).output = .withdrawn)
      ∧ ((after (.messageSent 0) (transmitting .resetKiosk gate)).lane 0).link.tx = none
      ∧ ((after (.messageSent 0) (stoppedIn .directed (transmitting ticket gate))).lane 0).keptAnswers
          = [.ticket { id := 0, visit := 1, outcome := .sent }] := by
  and_intros <;> decide +kernel

/-- The characters of a message, one after another, each with even parity and a stop bit. -/
def receive (l : List Byte) (s : State) : State :=
  l.foldl (fun s b => after (.characterReceived 0 b (decide ((List.finRange 8).countP (fun i => b.getLsb i) % 2 = 1)) true) s) s

theorem witness_characters :
    ((after (.characterReceived 0 3 true true) gate).lane 0).link.flags.parity = true
      ∧ ((after (.characterReceived 0 3 false false) gate).lane 0).link.flags.frame = true
      ∧ ((gate.lane 0).link.rx = .hunt ∧ ((receive [3] gate).lane 0).link.rx = .hunt
        ∧ ((receive [2] gate).lane 0).link.rx = .inMessage ∧ ((receive [2] gate).lane 0).link.assembly = [2])
      ∧ ((receive [2, 67, 60] gate).lane 0).link.assembly = [2, 67, 60]
      ∧ ((receive [2, 67, 61] gate).lane 0).link.flags.badMsg = true
      ∧ ((receive [2, 67, 0, 0] gate).lane 0).link.flags.badMsg = true := by
  and_intros <;> decide +kernel

/-! ### WellFormed: an ill-formed command for each check -/

/-- A text one character too long for its count byte. -/
def longText : Text := List.replicate 256 65

/-- Numbers one above what one, two and three bytes hold. -/
def ill1 : Nat := 256
def ill2 : Nat := 65536
def ill3 : Nat := 16777216

theorem test_wellFormed_refuses_minutes :
    ([.timeSet 0 ill3, .timeSync 0 ill3, .windowAppend 0 ill3 30 1 1, .windowResize 0 ill3 none none
      , .windowRead 0 (.start ill3), .bookAdd 0 { newBooking with tag := ill3 }
      , .bookAmend 0 (refNo 1) { noChange with tag := some ill3 }, .bookPurge 0 (.minute ill3)
      , .deskRebook 0 1 (refNo 1) ill3] : List Instr).all (fun c => !wellFormed c) = true := by
  decide +kernel

theorem test_wellFormed_refuses_bytes :
    ([.windowAppend 0 990 ill1 1 1, .windowAppend 0 990 30 1 ill1, .windowResize 0 990 none (some ill1)
      , .windowRead 0 (.position ill1), .bookAdd 0 { newBooking with preferred := some ill1 }
      , .bookAdd 0 { newBooking with moves := [{ dropMove with size := some ill1 }] }
      , .bookAmend 0 (refNo 1) { noChange with preferred := .put ill1 }
      , .laneConfig 0 ill1 noConfig, .laneConfig 0 1 { noConfig with sample := some ill1 }
      , .laneConfig 0 1 { noConfig with depth := some ill1 }, .laneConfig 0 1 { noConfig with raiseLimit := some ill1 }
      , .laneConfig 0 1 { noConfig with axleTwinMin := some ill1 }, .laneConfig 0 1 { noConfig with parkAfter := some ill1 }
      , .laneConfig 0 1 { noConfig with clearLimit := some ill1 }, .laneOpen 0 ill1, .laneClose 0 ill1
      , .laneCloseForce 0 ill1, .laneRecover 0 ill1, .laneStatus 0 ill1 noLinkFlags, .plateReport 0 ill1 (plateNo 1)
      , .sealReport 0 1 (sealNo 1) (some ill1), .sealReportVoid 0 1 (sealNo 1) (some ill1)
      , .damageReport 0 1 (some ill1) [finding 1], .damageReport 0 1 none [finding ill1], .visitRead 0 (.lane ill1)
      , .visitRead 0 (.desk ill1), .visitRead 0 (.staging ill1)] : List Instr).all (fun c => !wellFormed c) = true := by
  decide +kernel

theorem test_wellFormed_refuses_more_bytes :
    ([.holdPlace 0 1 .clerk (some ill1), .holdRelease 0 1 .clerk (some ill1), .blockConfirm 0 1 ill1
      , .blockSet 0 ill1 noFields, .blockRead 0 (.block ill1), .deskTake 0 ill1, .deskRetry 0 ill1
      , .deskRebook 0 ill1 (refNo 1) 990, .deskSend 0 ill1, .deskTurnBack 0 ill1, .deskReturn 0 ill1
      , .settingsWrite 0 { noSettings with p := some ill1 }, .settingsWrite 0 { noSettings with hx := some ill1 }
      , .settingsWrite 0 { noSettings with e := some ill1 }, .settingsWrite 0 { noSettings with g := some ill1 }
      , .settingsWrite 0 { noSettings with sealWindow := some ill1 }
      , .settingsWrite 0 { noSettings with damageWindow := some ill1 }
      , .settingsWrite 0 { noSettings with weights := noSettings.weights.set 6 (some ill1) }
      , .settingsWrite 0 { noSettings with tInspect := some ill1 }, .settingsWrite 0 { noSettings with tHold := some ill1 }
      , .settingsWrite 0 { noSettings with stopInput := some .rise }] : List Instr).all (fun c => !wellFormed c) = true := by
  decide +kernel

theorem test_wellFormed_refuses_words :
    ([.windowAppend 0 990 30 ill2 1, .windowResize 0 990 (some ill2) none, .laneConfig 0 1 { noConfig with pedestalLimit := some ill2 }
      , .laneConfig 0 1 { noConfig with holdLimit := some ill2 }, .laneConfig 0 1 { noConfig with linkRate := some 4800 }
      , .sealReport 0 ill2 (sealNo 1) none, .sealReportVoid 0 ill2 (sealNo 1) none, .damageReport 0 ill2 none [finding 1]
      , .damageDone 0 ill2, .visitRead 0 (.number ill2), .holdPlace 0 ill2 .clerk none, .holdRelease 0 ill2 .clerk none
      , .blockConfirm 0 ill2 1, .visitClose 0 ill2, .blockSet 0 0 { noFields with credit := some ill2 }
      , .blockSet 0 0 { noFields with route := some ill2 }] : List Instr).all (fun c => !wellFormed c) = true := by
  decide +kernel

theorem test_wellFormed_refuses_texts :
    ([.bookAdd 0 { newBooking with ref := longText }, .bookAdd 0 { newBooking with carrier := longText }
      , .bookAdd 0 { newBooking with plate := some longText }, .bookAdd 0 { newBooking with card := some longText }
      , .bookAdd 0 { newBooking with moves := [{ dropMove with container := some longText }] }
      , .bookAdd 0 { newBooking with moves := [{ dropMove with release := some longText }] }
      , .bookAdd 0 { newBooking with moves := [{ dropMove with seals := [longText] }] }
      , .bookAdd 0 { newBooking with moves := List.replicate 256 { dropMove with container := none, seals := [] } }
      , .bookAmend 0 longText noChange, .bookAmend 0 (refNo 1) { noChange with plate := .put longText }
      , .bookAmend 0 (refNo 1) { noChange with card := .put longText }
      , .bookAmend 0 (refNo 1) { noChange with moves := some [{ dropMove with seals := [longText] }] }
      , .bookCancel 0 longText, .bookReinstate 0 longText, .bookFind 0 (.ref longText), .bookFind 0 (.plate longText)
      , .bookFind 0 (.card longText), .bookPurge 0 (.ref longText), .carrierSet 0 longText .active
      , .plateReport 0 1 longText, .sealReport 0 1 longText none, .sealReportVoid 0 1 longText none
      , .damageReport 0 1 none (List.replicate 256 (finding 1)), .blockSet 0 0 { noFields with label := some longText }
      , .deskRebook 0 1 longText 990] : List Instr).all (fun c => !wellFormed c) = true := by
  decide +kernel

theorem test_wellFormed_refuses_messages :
    ([.card 0 (List.replicate 61 49), .keyedRef 0 (List.replicate 61 49), .keyedContainer 0 (List.replicate 60 49) none
      , .keyedContainer 0 box (some 3), .sealRead 0 (List.replicate 60 49) none, .sealRead 0 (sealNo 1) (some 0)]
      : List Instr).all (fun c => !wellFormed c) = true := by
  decide +kernel

theorem test_wellFormed_refuses_long_payload :
    operandsFit (.bookAdd 0 { newBooking with moves := List.replicate 60 dropMove }) = true
      ∧ wellFormed (.bookAdd 0 { newBooking with moves := List.replicate 60 dropMove }) = false := by
  decide +kernel

theorem test_wellFormed_admits_bounds :
    ([.timeSet 0 16777215, .windowAppend 0 990 255 65535 255, .laneConfig 0 255 { noConfig with linkRate := some 38400 }
      , .card 0 (List.replicate 60 49), .keyedContainer 0 (List.replicate 59 49) (some 2), .bookAdd 0 newBooking
      , .settingsWrite 0 { noSettings with stopInput := some .off }] : List Instr).all wellFormed = true := by
  decide +kernel

/-! ### Rows held against the spec's words -/

/-- R22: the identifier check accepts CSQU3054383 and no other last digit. -/
theorem test_containerCheck : containerOk box = true ∧ containerOk (box.set 10 52) = false := by decide +kernel

/-- R207: a frame is code, tag, payload length, payload, and a byte that brings the sum to 0. -/
theorem test_timeSet_frame : encode (.timeSet 7 1000) = [1, 7, 0, 3, 0, 3, 232, 10] := by decide +kernel

/-- R207: DESK_TAKE is code 33; the tag and a desk number follow. -/
theorem test_deskTake_frame : encode (.deskTake 255 4) = [33, 255, 0, 1, 4, 219] := by decide +kernel

/-- R207: a response is tag, status, payload length, payload, check byte. -/
theorem test_response_frame :
    ({ tag := 9, status := .ok, payload := [.word 258] } : Response).frame = [9, 0, 0, 2, 1, 2, 242] := by
  decide +kernel

/-- R207: KIOSK_HELLO, character by character, brings a link ONLINE; its sum character closes the sum to 0. -/
theorem test_hello_characters : ((receive [2, 72, 0, 184] gate).lane 3).link.online = false
    ∧ ((receive [2, 72, 0, 184] (lane1 (fun x => { x with link := Link.reset false }) gate)).lane 0).link.online = true := by
  decide +kernel

/-- R117, R120: a CARD of one digit, character by character, is searched for. -/
theorem test_card_characters :
    ((receive [2, 67, 1, 55, 133] (asking .none gate)).lane 0).request = .search (.card [55]) := by
  decide +kernel

/-- R2: the lane second wraps at 65,536, and the sub-minute count calls for a minute tick as it passes 59. -/
theorem test_laneSecond_wraps :
    (let s : State := { gate with tb := { gate.tb with laneSec := 65535, subMinute := 59 } };
    (after .laneSecond s).tb.laneSec = 0 ∧ (after .laneSecond s).tb.subMinute = 0 ∧ (after .laneSecond s).tb.ticksDue = 1) := by
  decide +kernel

/-- R206: the two pins select 12, 8 or 4 lanes. -/
theorem test_strap :
    (after (.powerOnReset false false) gate).strap = 12 ∧ (after (.resetLine false true) gate).strap = 8
      ∧ (after (.powerOnReset true true) gate).strap = 4 := by
  decide +kernel

/-- 8.6: DOOR_END 2, ROOF 1 and CORNER_POSTS 1 give index 24; CORNER_POSTS 2 after them gives 39 and hold DAMAGE. -/
theorem test_damage_worked :
    (let s := after (.damageReport 7 1 none [⟨.doorEnd, 2⟩, ⟨.roof, 1⟩, ⟨.cornerPosts, 1⟩]) gate;
    (s.visit? 1).map (fun v => (v.moves.map fun m => m.damage.map (·.index), v.holds)) = some ([some 24], [])
      ∧ ((after (.damageReport 7 1 none [⟨.cornerPosts, 2⟩]) s).visit? 1).map
          (fun v => (v.moves.map fun m => m.damage.map (·.index), v.holds.map fun h => (h.reason, h.source)))
        = some ([some 39], [(.damage, .lane)])) := by
  decide +kernel

/-- 3.9: K2, HAZARD and RESERVE in W660, is claimed at minute 615; W600's reserve is full, so it is pulled forward into
W600's general pool. -/
theorem test_pullForward_worked :
    (let w := fun start g r => ({ window start 40 6 g r with length := 60 } : Window)
    let k2 : Booking := { booking 2 .opened none 660 with pool := .reserve, special := .hazard }
    let g := asking (.claim [refNo 2]) (atMinute 615 .locked gate)
    let s : State := { g with be := { g.be with ring := [w 600 38 6, w 660 39 2], book := [k2] } };
    (after .claim s).be.ring.map (fun w => (w.bookedG, w.bookedR, w.arrived, w.pulledIn)) = [(39, 6, 1, 1), (39, 1, 0, 0)]
      ∧ (after .claim s).be.book.map (fun b => (b.state, b.tag, b.pool, b.flags.pulled)) = [(.arrived, 600, .general, true)]
      ∧ ((after .claim s).visit? 1).map (·.claimed.map (·.standing)) = some [.earlyPulled]) := by
  decide +kernel

/-- 3.10, R61: K5's claim and W600's retirement wait as minute 680 begins. The claim may go first: K5 is LATE, absorbed
into W660, and leaves W600's count at 38; then the retirement passes it over. -/
theorem test_retirementMinute_worked :
    (let w := fun start g => ({ window start 40 6 g 0 with length := 60 } : Window)
    let g := asking (.claim [refNo 5]) (tickDue (atMinute 679 .locked gate))
    let s := after .internalMinuteTick { g with
      be := { g.be with ring := [w 600 39, w 660 39], book := [booking 5 .opened none 600] } };
    let t := after .claim s
    s.tb.minute = some 680 ∧ s.retirementHeld = true ∧ s.nextGrant = .lane 0
      ∧ t.be.ring.map (fun w => (w.bookedG, w.absorbed)) = [(38, 0), (40, 1)]
      ∧ t.be.book.map (fun b => (b.state, b.tag, b.flags.absorbed)) = [(.arrived, 660, true)]
      ∧ t.nextGrant = .retirement ∧ (after .retirement t).be.ring.map (·.start) = [660]
      ∧ (after .retirement t).be.book.map (·.state) = [.arrived]) := by
  decide +kernel

/-- R24, R61: only a claim that had the turn as the minute began goes before the retirement: not a search, not one that
the port comes before, not one asked for after the tick. -/
theorem test_claimFirst :
    (let due := fun s : State => tickDue (atMinute 1039 .locked s)
      let ticked := fun s : State => after .internalMinuteTick (due s)
      (ticked (asking (.claim [refNo 1]) gate)).nextGrant = .lane 0
        ∧ (ticked (seeking gate)).nextGrant = .retirement
        ∧ (let s := asking (.claim [refNo 1]) (inPhase (.bookCancel 7 (refNo 1)) .waiting gate);
          (ticked { s with be := { s.be with lastClass := .lane } }).nextGrant = .retirement)
        ∧ (let t := ticked (asking .none gate);
          (t.modLane 0 fun x => { x with request := .claim [refNo 1] }).nextGrant = .retirement)) := by
  decide +kernel

/-- R149, R191: a place granted to a stopped lane that asks for a direction is given back as ASSIGNED is taken at the
resumption, and taken there on NO_YARD. -/
theorem test_stoppedGrant :
    (let asks := fun blocks : Vector Block 32 =>
        let s := stoppedIn .held (lane1 (fun x => { x with trouble := .blocked, request := .direction })
          (withVisit 1 (fun v => { v with moves := [dropEntry 3 .pending none .closed] }) gate))
        ({ s with td := { s.td with blocked := [0] }, yd := { s.yd with blocks } } : State)
      let resumed := fun s : State => after (.laneRecover 7 1) (after (.assignment 0) s.grantPlace)
      (asks gate.yd.blocks).grantPlace.td.admissions = [{ lane := 0, visit := 1 }]
        ∧ (let t := resumed (asks gate.yd.blocks);
          (t.lane 0).trouble = .none ∧ t.td.admissions = []
            ∧ (t.lane 0).sendOff.map (·.dest) = some .yard)
        ∧ (let t := resumed (asks YardDirector.reset.blocks);
          (t.lane 0).trouble = .admitted ∧ t.td.admissions = [{ lane := 0, visit := 1 }]
            ∧ (t.lane 0).sendOff.map (·.dest) = some .trouble)) := by
  decide +kernel

/-- R134, R142: a STOP VACATE at the resumption leaves a lane whose staging place was refused in IDENTIFY, and its BACK
send-off begins. -/
theorem test_refusedStagingVacates :
    let s := lane1 (fun x => { x with visit := none, keptAnswers := [.stagingFull 990] })
      (stoppedIn .identify (sensed .stop true gate))
    let t := after (.laneRecover 7 1) (sensed .stop false s);
    reply (.laneRecover 7 1) (sensed .stop false s) = some (.ok, []) ∧ (t.lane 0).state = .directed
      ∧ (t.lane 0).sendOff.map (fun o => (o.dest, o.minute)) = some (.back, some 990) := by
  decide +kernel

/-- 8.7: X9 read again for slot 2 moves from the stray list to drop 2, which alone is FOREIGN. -/
theorem test_stray_worked :
    (let drop := fun i (seals reads : List Text) => ({ dropEntry i .pending none .closed with
        sealRec := some { declared := seals, window := .closed, verdict := some .foreign
                          reads := reads.map fun n => { num := n, source := .pedestal, phase := .inWindow } } } : MoveEntry)
    let s := withVisit 1 (fun v => { v with
        moves := [drop 3 [[83, 49], [83, 50]] [[83, 49], [83, 50]], drop 6 [[83, 51]] [[83, 51]]]
        stray := [{ num := [88, 57], source := .pedestal, phase := .inWindow }]
        holds := [{ hold .badSeal with source := .lane }] }) (lane1 (fun x => { x with state := .held }) gate);
    ((after (.sealRead 0 [88, 57] (some 2)) s).visit? 1).map (fun v =>
        (v.moves.map fun m => m.sealRec.bind (·.verdict), v.stray, v.holds.map (·.reason)))
      = some ([some .matched, some .foreign], [], [.badSeal])) := by
  decide +kernel

/-- 11.5: no row of the table has bits, so no word spells a command. -/
theorem test_decode_none : decodeTableWord 8 1 = none ∧ gate.withFetchWord 8 1 = gate := ⟨rfl, rfl⟩

end Sys2Proof.Tests
end

section
/-! PROOFS. The Book Engine as the two reset rows leave it (R37): when the grant order finds nobody to serve, and that
a restart leaves nobody waiting. -/

namespace Sys2Proof.Machine

variable {s : State}

/-! ### When the Book Engine serves nobody (R24) -/

theorem State.nextLane_eq_none (h : ∀ l, (s.lane l).waitsBE = false) : s.nextLane = none := by
  simp [State.nextLane, h]

theorem State.turn_eq_none (hport : s.portWaitsBE = false) (hlanes : ∀ l, (s.lane l).waitsBE = false) :
    s.turn = .none := by
  simp [State.turn, hport, State.nextLane_eq_none hlanes]

theorem State.nextGrant_eq_none (hheld : s.retirementHeld = false) (hport : s.portWaitsBE = false)
    (hlanes : ∀ l, (s.lane l).waitsBE = false) : s.nextGrant = .none := by
  rw [State.nextGrant_free hheld, State.turn_eq_none hport hlanes]

theorem State.portWaitsBE_of_free (h : s.cp.inProgress = none) : s.portWaitsBE = false := by
  simp [State.portWaitsBE, h]

theorem State.retirementHeld_of_ring_nil (h : s.be.ring = []) : s.retirementHeld = false := by
  simp [State.retirementHeld, h]

/-! ### What a restart leaves (R110, R206) -/

variable (s) (a b : Bool)

@[simp] theorem State.restart_lane (l : LaneId) : (s.restart a b).lane l = .reset (s.lane l).link.cts := by
  simp [State.restart, State.powerOn, State.lane]

@[simp] theorem Lane.reset_waitsBE (cts : Bool) : (Lane.reset cts).waitsBE = false := rfl

theorem State.restart_nextGrant : (s.restart a b).nextGrant = .none :=
  State.nextGrant_eq_none (State.retirementHeld_of_ring_nil rfl) (State.portWaitsBE_of_free rfl) fun l => by simp

theorem exec_powerOnReset : exec (.powerOnReset a b) s = .next (s.restart a b) := rfl
theorem exec_resetLine : exec (.resetLine a b) s = .next (s.restart a b) := rfl

end Sys2Proof.Machine

open Sys2Proof.Machine

/-- Settles O13: both rows restart the part; R24 then grants nobody, since the ring is empty, the port free and no lane
waits. -/
theorem resetRowsClearEngine : Obligations.ResetRowsClearEngine := by
  intro s a b
  refine ⟨s.restart a b, exec_powerOnReset s a b, exec_resetLine s a b, ?engine⟩
  case engine =>
    have hlanes : ∀ l, ((s.restart a b).lane l).waitsBE = false := fun l => by simp
    exact ⟨rfl, rfl, rfl, rfl, rfl, s.restart_nextGrant a b, rfl, hlanes⟩

end

section
/-! PROOFS. The choice of a block for a move (R175) and one move of an assignment (R177). -/

namespace Sys2Proof.Machine

variable {blocks : Vector Block 32} {k : BlockKind} {preferred : Option Nat}

/-! ### The best of a list of blocks (R175) -/

theorem Block.takes_iff {b : Block} : b.takes k = true ↔ b.opened = true ∧ b.kind = k ∧ 0 < b.credit := by
  simp [Block.takes, and_assoc]

theorem mem_allBlocks (b : BlockId) : b ∈ allBlocks := List.mem_finRange b

/-- A block comes before another by greater credit, or by the lower number among equals; every block does so before
itself. -/
def Outranks (blocks : Vector Block 32) (b c : BlockId) : Prop :=
  blocks[c].credit < blocks[b].credit ∨ (blocks[c].credit = blocks[b].credit ∧ b ≤ c)

theorem Outranks.refl (b : BlockId) : Outranks blocks b b := .inr ⟨rfl, le_rfl⟩

theorem Outranks.antisymm {b c : BlockId} (hbc : Outranks blocks b c) (hcb : Outranks blocks c b) : b = c := by
  simp only [Outranks, Fin.le_def] at hbc hcb
  exact Fin.ext (by omega)

theorem Outranks.of_credit_lt {b c d : BlockId} (hlt : blocks[c].credit < blocks[b].credit)
    (hcd : Outranks blocks c d) : Outranks blocks b d := by
  simp only [Outranks] at hcd ⊢
  omega

/-- What R175 asks of the choice among the blocks of a list: one of them that qualifies and outranks every other that
does, or none where none qualifies. -/
def IsBest (blocks : Vector Block 32) (k : BlockKind) (seen : List BlockId) : Option BlockId → Prop
  | none => ∀ c ∈ seen, ¬ blocks[c].takes k = true
  | some b => b ∈ seen ∧ blocks[b].takes k = true ∧ ∀ c ∈ seen, blocks[c].takes k = true → Outranks blocks b c

theorem IsBest.unique {seen : List BlockId} {x y : Option BlockId} (hx : IsBest blocks k seen x)
    (hy : IsBest blocks k seen y) : x = y := by
  match x, y with
  | none, none => rfl
  | none, some b =>
    obtain ⟨hb, hbk, -⟩ := hy
    exact absurd hbk (hx b hb)
  | some b, none =>
    obtain ⟨hb, hbk, -⟩ := hx
    exact absurd hbk (hy b hb)
  | some b, some c =>
    obtain ⟨hb, hbk, hbBest⟩ := hx
    obtain ⟨hc, hck, hcBest⟩ := hy
    exact congrArg some ((hbBest c hc hck).antisymm (hcBest b hb hbk))

theorem isBest_allBlocks_none : IsBest blocks k allBlocks none ↔ ∀ c : BlockId, ¬ blocks[c].takes k = true := by
  simp [IsBest, mem_allBlocks]

theorem isBest_allBlocks_some {b : BlockId} : IsBest blocks k allBlocks (some b) ↔
    blocks[b].takes k = true ∧ ∀ c : BlockId, blocks[c].takes k = true → Outranks blocks b c := by
  simp [IsBest, mem_allBlocks]

/-! ### The walk over the blocks in number order -/

theorem betterBlock_of_not_takes {best : Option BlockId} {i : BlockId} (h : ¬ blocks[i].takes k = true) :
    betterBlock blocks k best i = best := if_neg h

theorem betterBlock_none {i : BlockId} (h : blocks[i].takes k = true) : betterBlock blocks k none i = some i := if_pos h

theorem betterBlock_some {i j : BlockId} (h : blocks[i].takes k = true) :
    betterBlock blocks k (some j) i = if blocks[j].credit < blocks[i].credit then some i else some j := if_pos h

/-- A later number replaces the best so far only by greater credit: that keeps the lowest number among equals. -/
theorem betterBlock_isBest {seen : List BlockId} {best : Option BlockId} {i : BlockId} (hlt : ∀ c ∈ seen, c < i)
    (h : IsBest blocks k seen best) : IsBest blocks k (seen ++ [i]) (betterBlock blocks k best i) := by
  by_cases hi : blocks[i].takes k = true
  case neg =>
    rw [betterBlock_of_not_takes hi]
    cases best with
    | none => exact List.forall_mem_append.mpr ⟨h, List.forall_mem_singleton.mpr hi⟩
    | some j =>
      obtain ⟨hj, hjk, hbest⟩ := h
      exact ⟨List.mem_append_left _ hj, hjk,
        List.forall_mem_append.mpr ⟨hbest, List.forall_mem_singleton.mpr fun hik => absurd hik hi⟩⟩
  case pos =>
    cases best with
    | none =>
      rw [betterBlock_none hi]
      exact ⟨by simp, hi, List.forall_mem_append.mpr
        ⟨fun c hc hck => absurd hck (h c hc), List.forall_mem_singleton.mpr fun _ => .refl i⟩⟩
    | some j =>
      obtain ⟨hj, hjk, hbest⟩ := h
      rw [betterBlock_some hi]
      split
      next hgt =>
        exact ⟨by simp, hi, List.forall_mem_append.mpr
          ⟨fun c hc hck => .of_credit_lt hgt (hbest c hc hck), List.forall_mem_singleton.mpr fun _ => .refl i⟩⟩
      next hle =>
        have hji : Outranks blocks j i :=
          (Nat.lt_or_eq_of_le (not_lt.mp hle)).imp_right fun heq => ⟨heq, (hlt j hj).le⟩
        exact ⟨List.mem_append_left _ hj, hjk,
          List.forall_mem_append.mpr ⟨hbest, List.forall_mem_singleton.mpr fun _ => hji⟩⟩

theorem foldl_betterBlock_isBest (l : List BlockId) {seen : List BlockId} {best : Option BlockId}
    (hsorted : (seen ++ l).Pairwise (· < ·)) (h : IsBest blocks k seen best) :
    IsBest blocks k (seen ++ l) (l.foldl (betterBlock blocks k) best) := by
  induction l generalizing seen best with
  | nil => simpa using h
  | cons i l ih =>
    obtain ⟨-, -, hcross⟩ := List.pairwise_append.mp hsorted
    have hlt : ∀ c ∈ seen, c < i := fun c hc => hcross c hc i List.mem_cons_self
    rw [List.append_cons] at hsorted ⊢
    exact ih hsorted (betterBlock_isBest hlt h)

/-! ### The choice -/

theorem blockOf_eq_some {n : Nat} {b : BlockId} : blockOf n = some b ↔ n = b.val := by
  unfold blockOf
  split
  next h => simp [Fin.ext_iff]
  next h => simp; omega

theorem chooseBlock_preferred {b : BlockId} (hp : preferred = some b.val) (hb : blocks[b].takes k = true) :
    chooseBlock blocks k preferred = some b := by
  have hof : blockOf b.val = some b := blockOf_eq_some.mpr rfl
  simp only [chooseBlock, hp, Option.bind_some, hof, if_pos hb]

theorem chooseBlock_of_not_preferred (h : ∀ b : BlockId, preferred = some b.val → ¬ blocks[b].takes k = true) :
    chooseBlock blocks k preferred = allBlocks.foldl (betterBlock blocks k) none := by
  have hnone : ((preferred.bind blockOf).bind fun i => if blocks[i].takes k then some i else none) = none := by
    refine Option.bind_eq_none_iff.mpr fun b hb => if_neg (h b ?_)
    obtain ⟨n, hn, hnb⟩ := Option.bind_eq_some_iff.mp hb
    rw [hn, blockOf_eq_some.mp hnb]
  simp only [chooseBlock, hnone]

theorem chooseBlock_isBest (h : ∀ b : BlockId, preferred = some b.val → ¬ blocks[b].takes k = true) :
    IsBest blocks k allBlocks (chooseBlock blocks k preferred) := by
  have hnil : IsBest blocks k [] none := fun _ hc => absurd hc List.not_mem_nil
  rw [chooseBlock_of_not_preferred h]
  exact foldl_betterBlock_isBest allBlocks (List.sortedLT_finRange 32).pairwise hnil

theorem chooseBlock_eq_iff (h : ∀ b : BlockId, preferred = some b.val → ¬ blocks[b].takes k = true)
    {x : Option BlockId} : chooseBlock blocks k preferred = x ↔ IsBest blocks k allBlocks x :=
  ⟨fun hx => hx ▸ chooseBlock_isBest h, (chooseBlock_isBest h).unique⟩

/-! ### One move of an assignment (R177) -/

variable {s : State} {i : Nat} {rest : List Nat} {ms : List MoveEntry} {m : MoveEntry}

theorem State.assignMoves_cons_of_some {b : BlockId} (hm : ms[i]? = some m) (hp : m.state = .pending)
    (hb : chooseBlock blocks (neededKind s.cfg.tInspect (s.moveBooking m).1 m) (s.moveBooking m).2 = some b) :
    s.assignMoves (i :: rest) blocks ms = s.assignMoves rest (modBlock blocks b (·.take))
      (ms.set i { m with state := .directed, block := some b }) := by
  simp only [State.assignMoves, hm, if_pos hp, hb]

theorem State.assignMoves_cons_of_none (hm : ms[i]? = some m) (hp : m.state = .pending)
    (hnone : chooseBlock blocks (neededKind s.cfg.tInspect (s.moveBooking m).1 m) (s.moveBooking m).2 = none) :
    s.assignMoves (i :: rest) blocks ms = .error (i, neededKind s.cfg.tInspect (s.moveBooking m).1 m) := by
  simp only [State.assignMoves, hm, if_pos hp, hnone]

end Sys2Proof.Machine

open Sys2Proof.Machine

/-- Settles O44: the walk over the blocks in number order keeps the best of those it has passed, and there is only one
best; an assignment takes the block so chosen out of the credits that its next choice reads. -/
theorem blockChoiceByCredit : Obligations.BlockChoiceByCredit := by
  intro blocks k preferred fits
  have hfits : ∀ b, fits b ↔ blocks[b].takes k = true := fun b => Block.takes_iff.symm
  simp only [hfits]
  refine ⟨fun b => chooseBlock_preferred, fun hno => ⟨fun b => ?best, ?none⟩, ?assign⟩
  case best => exact (chooseBlock_eq_iff hno).trans isBest_allBlocks_some
  case none => exact (chooseBlock_eq_iff hno).trans isBest_allBlocks_none
  case assign =>
    rintro s i rest ms m hm hp rfl rfl
    exact ⟨fun b => State.assignMoves_cons_of_some hm hp, State.assignMoves_cons_of_none hm hp⟩

end
